-- ==== Sys2Proof/Word.lean ====
section
/-! DEFINITION. The word types of RBC (`00_scope.md` R7: every quantity is unsigned). -/

namespace Sys2Proof

/-- One byte on the wire, in a buffer or in a record (R7). -/
abbrev Byte := BitVec 8

/-- A 32-bit register: a time on the millisecond base of R9, or a count of seconds (R44, R45). -/
abbrev Word32 := BitVec 32

/-- A device address 0x00..0x1F, which is also a registry slot index (R28, R92, R198). -/
abbrev Addr := BitVec 5

/-- A frame `F[0..10]`, `F[0]` first on the wire (R7, R90). -/
abbrev Frame := Vector Byte 11

/-- A serial-number fragment `s0..s7` (R97). -/
abbrev Fragment := Vector Byte 8

/-- The uninterpreted payload `x1..x7` of format RSPI (R92, R97). -/
abbrev Payload := Vector Byte 7

/-- A persistence record `REC[0..13]` (R240). -/
abbrev Record := Vector Byte 14

end Sys2Proof
end

