-- ==== Sys2Proof/Syntax.lean ====
section
/-! DEFINITION. The instructions of RBC: one constructor per row of `spec/opcode_table.json`
(28 frame kinds, 15 host commands), the message kinds, and the two carriers an instruction comes in. -/

namespace Sys2Proof

/-- MessageKind, the closed enumeration of 29 values, in the order of the kind ids of R96. -/
inductive MessageKind where
  | discover | powerUp | powerDown | heartbeat | ledOnConfirm | serialRequest1 | serialRequest2
  | warmup | warmupComplete | setAddress | ledBrightness | ledBrightnessStartup | color
  | colorStartup | colorConfirm | startupComplete
  | startupAck | startupAckUnaddressed | serialReply1 | serialReply2 | warmupAck
  | warmupCompleteAck | heartbeatRunning | ledBrightnessAck | ledBrightnessAckStartup
  | colorStartupAck | ledOnAck | startupCompleteAck
  | unknown
deriving DecidableEq, Repr

/-- A host command as the command port carries it (R50): the code, 14 argument bytes, and their count. -/
structure Cmd where
  op : Byte
  arg : Vector Byte 14
  len : BitVec 4
deriving DecidableEq, Repr

/-- The two carriers of an instruction: a frame (R90) or a host command (R111). -/
inductive Packet where
  | frame (f : Frame)
  | command (c : Cmd)
deriving DecidableEq, Repr

/-- The instructions, in the order of `spec/opcode_table.json`. Operands as R97 and R111 give them. -/
inductive Instr where
  -- frame kinds (R127 to R154)
  | discover
  | powerUp
  | powerDown
  | startupAckUnaddressed (x : Payload)
  | startupAck (a : Addr) (x : Payload)
  | serialReply1 (s : Fragment)
  | serialReply2 (s : Fragment)
  | warmupAck (a : Addr)
  | warmupCompleteAck (a : Addr)
  | heartbeatRunning (a : Addr)
  | ledBrightnessAck (a : Addr)
  | ledBrightnessAckStartup (a : Addr)
  | colorStartupAck (a : Addr)
  | ledOnAck (a : Addr)
  | startupCompleteAck (a : Addr)
  | color (r g b : Byte)
  | colorConfirm
  | setAddress (a : Addr)
  | heartbeat (a : Addr)
  | serialRequest1 (a : Addr)
  | serialRequest2 (a : Addr)
  | warmup (a : Addr)
  | warmupComplete (a : Addr)
  | ledOnConfirm (a : Addr)
  | startupComplete (a : Addr)
  | ledBrightness (a : Addr) (level : Byte)
  | ledBrightnessStartup (a : Addr) (level : Byte)
  | colorStartup (a : Addr) (r g b : Byte)
  -- host commands (R111)
  | powerOn
  | powerOff
  | heartbeatPoll
  | saveRuntime
  | setRGB (r g b : Byte)
  | setBrightness (v : Byte)
  | setWarnAt (seconds : Word32)
  | setAutoShutoff (seconds : Word32)
  | loadSettings (bytes : List Byte)
  | getBusState
  | getDevice (a : Byte)
  | getRuntimeHours
  | getPercentLeft
  | getHeartbeatDue
  | rebind
deriving DecidableEq, Repr

end Sys2Proof
end

