-- ==== Sys2Proof/Decode.lean ====
section
/-! DEFINITION. The packet codec: the kind table (R99), `classify` (R121), the decoder, the encoder,
`build` (R122) and the extraction functions (R123 to R125), and the host command codes (R111). -/

namespace Sys2Proof

/-- SYNC (R10): the value of `F[0]` in every frame. -/
def sync : Byte := 0xAA

/-- ADDR_NONE (R10, R71): the "no free address" sentinel. -/
def addrNone : Byte := 0x20

/-! ## Kinds: ids, formats, category bytes, codes -/

/-- The numeric kind id of R96. -/
def MessageKind.id : MessageKind → Byte
  | .discover => 0 | .powerUp => 1 | .powerDown => 2 | .heartbeat => 3 | .ledOnConfirm => 4
  | .serialRequest1 => 5 | .serialRequest2 => 6 | .warmup => 7 | .warmupComplete => 8
  | .setAddress => 9 | .ledBrightness => 10 | .ledBrightnessStartup => 11 | .color => 12
  | .colorStartup => 13 | .colorConfirm => 14 | .startupComplete => 15 | .startupAck => 16
  | .startupAckUnaddressed => 17 | .serialReply1 => 18 | .serialReply2 => 19 | .warmupAck => 20
  | .warmupCompleteAck => 21 | .heartbeatRunning => 22 | .ledBrightnessAck => 23
  | .ledBrightnessAckStartup => 24 | .colorStartupAck => 25 | .ledOnAck => 26
  | .startupCompleteAck => 27 | .unknown => 28

/-- The ten frame formats of R92. -/
inductive Format where
  | sys | bc | bcc | bca | req | reql | reqc | rspa | rspi | rsps
deriving DecidableEq, Repr

/-- The format of each kind (R92, last column); Unknown has none (R155). -/
def MessageKind.format : MessageKind → Option Format
  | .discover | .powerUp | .powerDown => some .sys
  | .colorConfirm => some .bc
  | .color => some .bcc
  | .setAddress => some .bca
  | .heartbeat | .serialRequest1 | .serialRequest2 | .warmup | .warmupComplete | .ledOnConfirm
  | .startupComplete => some .req
  | .ledBrightness | .ledBrightnessStartup => some .reql
  | .colorStartup => some .reqc
  | .warmupAck | .warmupCompleteAck | .heartbeatRunning | .ledBrightnessAck
  | .ledBrightnessAckStartup | .colorStartupAck | .ledOnAck | .startupCompleteAck => some .rspa
  | .startupAck | .startupAckUnaddressed => some .rspi
  | .serialReply1 | .serialReply2 => some .rsps
  | .unknown => none

/-- The category byte `F[1]` of each kind that has one (R94); an addressed request has its address
there instead, and Unknown has nothing. -/
def MessageKind.category : MessageKind → Byte
  | .powerUp | .powerDown => 0x81
  | .discover | .setAddress => 0x82
  | .color | .colorConfirm => 0x8E
  | .startupAck | .startupAckUnaddressed | .serialReply1 | .serialReply2 | .warmupAck
  | .warmupCompleteAck | .heartbeatRunning | .ledBrightnessAck | .ledBrightnessAckStartup
  | .colorStartupAck | .ledOnAck | .startupCompleteAck => 0x80
  | .heartbeat | .serialRequest1 | .serialRequest2 | .warmup | .warmupComplete | .ledOnConfirm
  | .startupComplete | .ledBrightness | .ledBrightnessStartup | .colorStartup | .unknown => 0x00

/-- The CODE byte `F[2]` of each kind (R95); Unknown has none and reads 0. -/
def MessageKind.code : MessageKind → Byte
  | .powerUp => 0x01
  | .powerDown => 0x02
  | .discover | .startupAck | .startupAckUnaddressed => 0x07
  | .setAddress => 0x08
  | .heartbeat | .heartbeatRunning => 0x10
  | .serialRequest1 | .serialReply1 => 0x11
  | .serialRequest2 | .serialReply2 => 0x12
  | .warmup | .warmupAck => 0x20
  | .warmupComplete | .warmupCompleteAck => 0x21
  | .ledOnConfirm | .ledOnAck => 0x22
  | .startupComplete | .startupCompleteAck => 0x23
  | .ledBrightness | .ledBrightnessAck => 0x30
  | .ledBrightnessStartup | .ledBrightnessAckStartup => 0x31
  | .colorStartup | .colorStartupAck => 0x32
  | .color => 0x33
  | .colorConfirm => 0x34
  | .unknown => 0x00

/-! ## The kind table and `classify` -/

/-- One byte of a row's byte pattern (R99): a fixed byte, `aa` (mask 0xE0, R93) or `..` (mask 0). -/
inductive BytePattern where
  | fix (b : Byte)
  | address
  | any
deriving DecidableEq, Repr

/-- The mask byte of a pattern byte (R99). -/
def BytePattern.mask : BytePattern → Byte
  | .fix _ => 0xFF
  | .address => 0xE0
  | .any => 0x00

/-- The match byte of a pattern byte (R99). -/
def BytePattern.value : BytePattern → Byte
  | .fix b => b
  | .address => 0x00
  | .any => 0x00

/-- One row of the kind table. -/
structure KindRow where
  kind : MessageKind
  bytes : List BytePattern
deriving DecidableEq, Repr

/-- `n` bytes that must be zero, the `--` of R92. -/
def zeros (n : Nat) : List BytePattern := List.replicate n (.fix 0)

/-- `n` bytes that are not tested. -/
def anys (n : Nat) : List BytePattern := List.replicate n .any

/-- A row whose `F[1]` is the category byte `cat` and whose `F[2]` is `code`. -/
def categoryRow (k : MessageKind) (cat code : Byte) (rest : List BytePattern) : KindRow :=
  ⟨k, [.fix 0xAA, .fix cat, .fix code] ++ rest⟩

/-- A row whose `F[1]` is an address. -/
def addressedRow (k : MessageKind) (code : Byte) (rest : List BytePattern) : KindRow :=
  ⟨k, [.fix 0xAA, .address, .fix code] ++ rest⟩

/-- The kind table KT of R99, rows P1 to P28 in ascending priority. DEDUCED, safe (log 32): the corner case
of R127 leaves out that Discover with F[1] changed to 0x80 is the frame of R144, row P4; this table is followed. -/
def kindTable : List KindRow :=
  [ categoryRow .discover 0x82 0x07 (zeros 8),
    categoryRow .powerUp 0x81 0x01 (zeros 8),
    categoryRow .powerDown 0x81 0x02 (zeros 8),
    categoryRow .startupAckUnaddressed 0x80 0x07 (.fix 0x00 :: anys 7),
    categoryRow .startupAck 0x80 0x07 (.address :: anys 7),
    categoryRow .serialReply1 0x80 0x11 (anys 8),
    categoryRow .serialReply2 0x80 0x12 (anys 8),
    categoryRow .warmupAck 0x80 0x20 (.address :: zeros 7),
    categoryRow .warmupCompleteAck 0x80 0x21 (.address :: zeros 7),
    categoryRow .heartbeatRunning 0x80 0x10 (.address :: zeros 7),
    categoryRow .ledBrightnessAck 0x80 0x30 (.address :: zeros 7),
    categoryRow .ledBrightnessAckStartup 0x80 0x31 (.address :: zeros 7),
    categoryRow .colorStartupAck 0x80 0x32 (.address :: zeros 7),
    categoryRow .ledOnAck 0x80 0x22 (.address :: zeros 7),
    categoryRow .startupCompleteAck 0x80 0x23 (.address :: zeros 7),
    categoryRow .color 0x8E 0x33 (anys 3 ++ zeros 5),
    categoryRow .colorConfirm 0x8E 0x34 (zeros 8),
    categoryRow .setAddress 0x82 0x08 (.address :: zeros 7),
    addressedRow .heartbeat 0x10 (zeros 8),
    addressedRow .serialRequest1 0x11 (zeros 8),
    addressedRow .serialRequest2 0x12 (zeros 8),
    addressedRow .warmup 0x20 (zeros 8),
    addressedRow .warmupComplete 0x21 (zeros 8),
    addressedRow .ledOnConfirm 0x22 (zeros 8),
    addressedRow .startupComplete 0x23 (zeros 8),
    addressedRow .ledBrightness 0x30 (.any :: zeros 7),
    addressedRow .ledBrightnessStartup 0x31 (.any :: zeros 7),
    addressedRow .colorStartup 0x32 (anys 3 ++ zeros 5) ]

/-- `(F[i] AND mask[i]) = match[i]` for every byte (R121). -/
def patternMatches : List BytePattern → List Byte → Bool
  | p :: ps, b :: bs => (b &&& p.mask) == p.value && patternMatches ps bs
  | [], [] => true
  | _, _ => false

/-- A row matches a frame (R99). -/
def KindRow.matches (row : KindRow) (f : Frame) : Bool := patternMatches row.bytes f.toList

/-- `classify` over any kind table (R121): the first row that matches wins, Unknown if none does.
The table is an argument so that a claim can be made of every table of R100. -/
def classifyWith : List KindRow → Frame → MessageKind
  | [], _ => .unknown
  | row :: rows, f => if row.matches f then row.kind else classifyWith rows f

/-- `classify` (R121) over the table of R99. -/
def classify (f : Frame) : MessageKind := classifyWith kindTable f

/-! ## Operands read from a frame -/

/-- The address in a byte that the address test of R93 has accepted: its low five bits. -/
def addrOfByte (b : Byte) : Addr := b.setWidth 5

/-- `F[4..10]`, the payload of format RSPI (R92). -/
def payloadOf (f : Frame) : Payload := #v[f[4], f[5], f[6], f[7], f[8], f[9], f[10]]

/-- `F[3..10]`, the raw bytes of format RSPS (R92). -/
def rawFragment (f : Frame) : Fragment := #v[f[3], f[4], f[5], f[6], f[7], f[8], f[9], f[10]]

/-! ## The decoder -/

/-- Why a packet decodes to no instruction. -/
inductive Reject where
  /-- No row of the kind table matches: the verdict Unknown of R105. -/
  | unknownKind
  /-- The command code is not in R111, or the command has too few argument bytes (R234). -/
  | badCommand (op : Byte)
deriving DecidableEq, Repr

/-- The instruction a frame stands for: its kind by `classify`, its operands by R97. -/
def decodeFrame (f : Frame) : Except Reject Instr :=
  match classify f with
  | .discover => .ok .discover
  | .powerUp => .ok .powerUp
  | .powerDown => .ok .powerDown
  | .startupAckUnaddressed => .ok (.startupAckUnaddressed (payloadOf f))
  | .startupAck => .ok (.startupAck (addrOfByte f[3]) (payloadOf f))
  | .serialReply1 => .ok (.serialReply1 (rawFragment f))
  | .serialReply2 => .ok (.serialReply2 (rawFragment f))
  | .warmupAck => .ok (.warmupAck (addrOfByte f[3]))
  | .warmupCompleteAck => .ok (.warmupCompleteAck (addrOfByte f[3]))
  | .heartbeatRunning => .ok (.heartbeatRunning (addrOfByte f[3]))
  | .ledBrightnessAck => .ok (.ledBrightnessAck (addrOfByte f[3]))
  | .ledBrightnessAckStartup => .ok (.ledBrightnessAckStartup (addrOfByte f[3]))
  | .colorStartupAck => .ok (.colorStartupAck (addrOfByte f[3]))
  | .ledOnAck => .ok (.ledOnAck (addrOfByte f[3]))
  | .startupCompleteAck => .ok (.startupCompleteAck (addrOfByte f[3]))
  | .color => .ok (.color f[3] f[4] f[5])
  | .colorConfirm => .ok .colorConfirm
  | .setAddress => .ok (.setAddress (addrOfByte f[3]))
  | .heartbeat => .ok (.heartbeat (addrOfByte f[1]))
  | .serialRequest1 => .ok (.serialRequest1 (addrOfByte f[1]))
  | .serialRequest2 => .ok (.serialRequest2 (addrOfByte f[1]))
  | .warmup => .ok (.warmup (addrOfByte f[1]))
  | .warmupComplete => .ok (.warmupComplete (addrOfByte f[1]))
  | .ledOnConfirm => .ok (.ledOnConfirm (addrOfByte f[1]))
  | .startupComplete => .ok (.startupComplete (addrOfByte f[1]))
  | .ledBrightness => .ok (.ledBrightness (addrOfByte f[1]) f[3])
  | .ledBrightnessStartup => .ok (.ledBrightnessStartup (addrOfByte f[1]) f[3])
  | .colorStartup => .ok (.colorStartup (addrOfByte f[1]) f[3] f[4] f[5])
  | .unknown => .error .unknownKind

/-- Four bytes as a 32-bit number, little-endian, `b0` least significant (R74, R111). -/
def le32 (b0 b1 b2 b3 : Byte) : Word32 := b3 ++ b2 ++ b1 ++ b0

/-- Two bytes as a 16-bit number, little-endian (R240). -/
def le16 (b0 b1 : Byte) : BitVec 16 := b1 ++ b0

/-- The instruction a host command stands for (R111), if its code is listed and `cmd_len` is enough
(R234). Extra argument bytes are ignored. A length of 15 reads as the 14 bytes the port has (log 18). -/
def decodeCmd (c : Cmd) : Except Reject Instr :=
  let bad : Except Reject Instr := .error (.badCommand c.op)
  match c.op.toNat with
  | 0x01 => .ok .powerOn
  | 0x02 => .ok .powerOff
  | 0x03 => .ok .heartbeatPoll
  | 0x04 => .ok .saveRuntime
  | 0x10 => if c.len < 3 then bad else .ok (.setRGB c.arg[0] c.arg[1] c.arg[2])
  | 0x11 => if c.len < 1 then bad else .ok (.setBrightness c.arg[0])
  | 0x12 =>
    if c.len < 4 then bad else .ok (.setWarnAt (le32 c.arg[0] c.arg[1] c.arg[2] c.arg[3]))
  | 0x13 =>
    if c.len < 4 then bad else .ok (.setAutoShutoff (le32 c.arg[0] c.arg[1] c.arg[2] c.arg[3]))
  | 0x14 => .ok (.loadSettings (c.arg.toList.take c.len.toNat))
  | 0x20 => .ok .getBusState
  | 0x21 => if c.len < 1 then bad else .ok (.getDevice c.arg[0])
  | 0x22 => .ok .getRuntimeHours
  | 0x23 => .ok .getPercentLeft
  | 0x24 => .ok .getHeartbeatDue
  | 0x30 => .ok .rebind
  | _ => bad

/-- The decoder: total on every packet, rejecting by name. -/
def decode : Packet → Except Reject Instr
  | .frame f => decodeFrame f
  | .command c => decodeCmd c

/-! ## The encoder -/

/-- The byte an address is sent as: zero-extended (R97). -/
def byteOfAddr (a : Addr) : Byte := a.setWidth 8

/-- Formats SYS and BC (R92). -/
def frameSYS (k : MessageKind) : Frame := #v[sync, k.category, k.code, 0, 0, 0, 0, 0, 0, 0, 0]

/-- Format BCC (R92). -/
def frameBCC (k : MessageKind) (r g b : Byte) : Frame :=
  #v[sync, k.category, k.code, r, g, b, 0, 0, 0, 0, 0]

/-- Format BCA (R92). -/
def frameBCA (k : MessageKind) (a : Addr) : Frame :=
  #v[sync, k.category, k.code, byteOfAddr a, 0, 0, 0, 0, 0, 0, 0]

/-- Format REQ (R92). -/
def frameREQ (k : MessageKind) (a : Addr) : Frame :=
  #v[sync, byteOfAddr a, k.code, 0, 0, 0, 0, 0, 0, 0, 0]

/-- Format REQL (R92). -/
def frameREQL (k : MessageKind) (a : Addr) (level : Byte) : Frame :=
  #v[sync, byteOfAddr a, k.code, level, 0, 0, 0, 0, 0, 0, 0]

/-- Format REQC (R92). -/
def frameREQC (k : MessageKind) (a : Addr) (r g b : Byte) : Frame :=
  #v[sync, byteOfAddr a, k.code, r, g, b, 0, 0, 0, 0, 0]

/-- Format RSPA (R92). -/
def frameRSPA (k : MessageKind) (a : Addr) : Frame :=
  #v[sync, k.category, k.code, byteOfAddr a, 0, 0, 0, 0, 0, 0, 0]

/-- Format RSPI (R92); StartupAckUnaddressed has the fixed address 0x00 (R144). -/
def frameRSPI (k : MessageKind) (a : Addr) (x : Payload) : Frame :=
  #v[sync, k.category, k.code, byteOfAddr a, x[0], x[1], x[2], x[3], x[4], x[5], x[6]]

/-- Format RSPS (R92). -/
def frameRSPS (k : MessageKind) (s : Fragment) : Frame :=
  #v[sync, k.category, k.code, s[0], s[1], s[2], s[3], s[4], s[5], s[6], s[7]]

/-- The 14 argument bytes of the command port, the listed ones first and zeros after them. -/
def argBytes (l : List Byte) : Vector Byte 14 :=
  #v[l.getD 0 0, l.getD 1 0, l.getD 2 0, l.getD 3 0, l.getD 4 0, l.getD 5 0, l.getD 6 0,
     l.getD 7 0, l.getD 8 0, l.getD 9 0, l.getD 10 0, l.getD 11 0, l.getD 12 0, l.getD 13 0]

/-- A command with exactly the argument bytes given (R111). -/
def command (op : Byte) (args : List Byte) : Packet :=
  .command { op := op, arg := argBytes args, len := BitVec.ofNat 4 args.length }

/-- Byte `i` of a 32-bit number, byte 0 least significant (R74). -/
def byteOf (w : Word32) (i : Nat) : Byte := w.extractLsb' (8 * i) 8

/-- The four bytes of a 32-bit number, little-endian (R74). -/
def bytesLE (w : Word32) : List Byte := [byteOf w 0, byteOf w 1, byteOf w 2, byteOf w 3]

/-- The encoder: the packet of an instruction, from R92 to R95 and R111. -/
def encode : Instr → Packet
  | .discover => .frame (frameSYS .discover)
  | .powerUp => .frame (frameSYS .powerUp)
  | .powerDown => .frame (frameSYS .powerDown)
  | .startupAckUnaddressed x => .frame (frameRSPI .startupAckUnaddressed 0 x)
  | .startupAck a x => .frame (frameRSPI .startupAck a x)
  | .serialReply1 s => .frame (frameRSPS .serialReply1 s)
  | .serialReply2 s => .frame (frameRSPS .serialReply2 s)
  | .warmupAck a => .frame (frameRSPA .warmupAck a)
  | .warmupCompleteAck a => .frame (frameRSPA .warmupCompleteAck a)
  | .heartbeatRunning a => .frame (frameRSPA .heartbeatRunning a)
  | .ledBrightnessAck a => .frame (frameRSPA .ledBrightnessAck a)
  | .ledBrightnessAckStartup a => .frame (frameRSPA .ledBrightnessAckStartup a)
  | .colorStartupAck a => .frame (frameRSPA .colorStartupAck a)
  | .ledOnAck a => .frame (frameRSPA .ledOnAck a)
  | .startupCompleteAck a => .frame (frameRSPA .startupCompleteAck a)
  | .color r g b => .frame (frameBCC .color r g b)
  | .colorConfirm => .frame (frameSYS .colorConfirm)
  | .setAddress a => .frame (frameBCA .setAddress a)
  | .heartbeat a => .frame (frameREQ .heartbeat a)
  | .serialRequest1 a => .frame (frameREQ .serialRequest1 a)
  | .serialRequest2 a => .frame (frameREQ .serialRequest2 a)
  | .warmup a => .frame (frameREQ .warmup a)
  | .warmupComplete a => .frame (frameREQ .warmupComplete a)
  | .ledOnConfirm a => .frame (frameREQ .ledOnConfirm a)
  | .startupComplete a => .frame (frameREQ .startupComplete a)
  | .ledBrightness a level => .frame (frameREQL .ledBrightness a level)
  | .ledBrightnessStartup a level => .frame (frameREQL .ledBrightnessStartup a level)
  | .colorStartup a r g b => .frame (frameREQC .colorStartup a r g b)
  | .powerOn => command 0x01 []
  | .powerOff => command 0x02 []
  | .heartbeatPoll => command 0x03 []
  | .saveRuntime => command 0x04 []
  | .setRGB r g b => command 0x10 [r, g, b]
  | .setBrightness v => command 0x11 [v]
  | .setWarnAt s => command 0x12 (bytesLE s)
  | .setAutoShutoff s => command 0x13 (bytesLE s)
  | .loadSettings bytes => command 0x14 bytes
  | .getBusState => command 0x20 []
  | .getDevice a => command 0x21 [a]
  | .getRuntimeHours => command 0x22 []
  | .getPercentLeft => command 0x23 []
  | .getHeartbeatDue => command 0x24 []
  | .rebind => command 0x30 []

/-- The kind of a frame instruction; `none` for a host command. -/
def Instr.kind : Instr → Option MessageKind
  | .discover => some .discover
  | .powerUp => some .powerUp
  | .powerDown => some .powerDown
  | .startupAckUnaddressed _ => some .startupAckUnaddressed
  | .startupAck _ _ => some .startupAck
  | .serialReply1 _ => some .serialReply1
  | .serialReply2 _ => some .serialReply2
  | .warmupAck _ => some .warmupAck
  | .warmupCompleteAck _ => some .warmupCompleteAck
  | .heartbeatRunning _ => some .heartbeatRunning
  | .ledBrightnessAck _ => some .ledBrightnessAck
  | .ledBrightnessAckStartup _ => some .ledBrightnessAckStartup
  | .colorStartupAck _ => some .colorStartupAck
  | .ledOnAck _ => some .ledOnAck
  | .startupCompleteAck _ => some .startupCompleteAck
  | .color _ _ _ => some .color
  | .colorConfirm => some .colorConfirm
  | .setAddress _ => some .setAddress
  | .heartbeat _ => some .heartbeat
  | .serialRequest1 _ => some .serialRequest1
  | .serialRequest2 _ => some .serialRequest2
  | .warmup _ => some .warmup
  | .warmupComplete _ => some .warmupComplete
  | .ledOnConfirm _ => some .ledOnConfirm
  | .startupComplete _ => some .startupComplete
  | .ledBrightness _ _ => some .ledBrightness
  | .ledBrightnessStartup _ _ => some .ledBrightnessStartup
  | .colorStartup _ _ _ _ => some .colorStartup
  | .powerOn | .powerOff | .heartbeatPoll | .saveRuntime | .setRGB _ _ _ | .setBrightness _
  | .setWarnAt _ | .setAutoShutoff _ | .loadSettings _ | .getBusState | .getDevice _
  | .getRuntimeHours | .getPercentLeft | .getHeartbeatDue | .rebind => none

/-- The command code of a host command (R111); `none` for a frame. -/
def Instr.code : Instr → Option Byte
  | .powerOn => some 0x01
  | .powerOff => some 0x02
  | .heartbeatPoll => some 0x03
  | .saveRuntime => some 0x04
  | .setRGB _ _ _ => some 0x10
  | .setBrightness _ => some 0x11
  | .setWarnAt _ => some 0x12
  | .setAutoShutoff _ => some 0x13
  | .loadSettings _ => some 0x14
  | .getBusState => some 0x20
  | .getDevice _ => some 0x21
  | .getRuntimeHours => some 0x22
  | .getPercentLeft => some 0x23
  | .getHeartbeatDue => some 0x24
  | .rebind => some 0x30
  | .discover | .powerUp | .powerDown | .startupAckUnaddressed _ | .startupAck _ _
  | .serialReply1 _ | .serialReply2 _ | .warmupAck _ | .warmupCompleteAck _
  | .heartbeatRunning _ | .ledBrightnessAck _ | .ledBrightnessAckStartup _
  | .colorStartupAck _ | .ledOnAck _ | .startupCompleteAck _ | .color _ _ _ | .colorConfirm
  | .setAddress _ | .heartbeat _ | .serialRequest1 _ | .serialRequest2 _ | .warmup _
  | .warmupComplete _ | .ledOnConfirm _ | .startupComplete _ | .ledBrightness _ _
  | .ledBrightnessStartup _ _ | .colorStartup _ _ _ _ => none

/-- The argument bytes a listed command code needs (R234); `none` for a code not in R111. -/
def argsNeeded (op : Byte) : Option (BitVec 4) :=
  match op.toNat with
  | 0x10 => some 3
  | 0x11 | 0x21 => some 1
  | 0x12 | 0x13 => some 4
  | 0x01 | 0x02 | 0x03 | 0x04 | 0x14 | 0x20 | 0x22 | 0x23 | 0x24 | 0x30 => some 0
  | _ => none

/-! ## `build` -/

/-- The parameters of `build` (R122): each may be missing. -/
structure BuildParams where
  addr : Option Byte := none
  level : Option Byte := none
  rgb : Option (Byte × Byte × Byte) := none
  serial : Option Fragment := none
  payload : Option Payload := none
deriving DecidableEq, Repr

/-- An address parameter, refused when missing, above 0x1F or below `low` (R122). -/
def BuildParams.address (p : BuildParams) (low : Byte) : Option Addr :=
  match p.addr with
  | some a => if low ≤ a ∧ a ≤ 0x1F then some (addrOfByte a) else none
  | none => none

/-- A level parameter, refused when missing or above 100 (R122). -/
def BuildParams.legalLevel (p : BuildParams) : Option Byte :=
  match p.level with
  | some l => if l ≤ 100 then some l else none
  | none => none

/-- The payload of format RSPI, zero when not given (R143, R144). -/
def BuildParams.payloadOrZero (p : BuildParams) : Payload := p.payload.getD #v[0, 0, 0, 0, 0, 0, 0]

/-- `build(k, p)` (R122): the frame of kind `k` with parameters `p`, or `none` when refused. R97 and R122
speak of the parameters that a kind takes; one that `k` does not take is not looked at, whatever its
value, such as an address for Discover or for StartupAckUnaddressed (DESIGN CHOICE, unsafe, log 31). -/
def build (k : MessageKind) (p : BuildParams) : Option Frame :=
  match k.format with
  | none => none
  | some .sys | some .bc => some (frameSYS k)
  | some .bcc => p.rgb.map fun (r, g, b) => frameBCC k r g b
  | some .bca => (p.address 1).map (frameBCA k)
  | some .req => (p.address 0).map (frameREQ k)
  | some .reql => (p.address 0).bind fun a => p.legalLevel.map (frameREQL k a)
  | some .reqc => (p.address 0).bind fun a => p.rgb.map fun (r, g, b) => frameREQC k a r g b
  | some .rspa => (p.address 0).map (frameRSPA k)
  | some .rspi =>
    if k = .startupAckUnaddressed then some (frameRSPI k 0 p.payloadOrZero)
    else (p.address 1).map fun a => frameRSPI k a p.payloadOrZero
  | some .rsps => p.serial.map (frameRSPS k)

/-! ## Extraction -/

/-- The result of `address_of` (R123). -/
inductive BusTarget where
  | addr (a : Byte)
  | broadcast
deriving DecidableEq, Repr

/-- `address_of(F)` (R123). -/
def addressOf (f : Frame) : BusTarget :=
  match (classify f).format with
  | some .req | some .reql | some .reqc => .addr f[1]
  | some .rspa | some .rspi | some .bca => .addr f[3]
  | some .sys | some .bc | some .bcc | some .rsps | none => .broadcast

/-- `level_of_frame(F)` (R123), for LedBrightness and LedBrightnessStartup. On a frame of another kind, for
which R123 does not define it, it is F[3] all the same (DESIGN CHOICE, unsafe, log 29). -/
def levelOfFrame (f : Frame) : Byte := f[3]

/-- `rgb_of(F)` (R123), for Color and ColorStartup. On a frame of another kind, for which R123 does not
define it, it is F[3..5] all the same (DESIGN CHOICE, unsafe, log 29). -/
def rgbOf (f : Frame) : Byte × Byte × Byte := (f[3], f[4], f[5])

/-- The printable filter (R124): 32..126 stay, any other byte becomes PRINT_SUB (R11). -/
def printable (b : Byte) : Byte := if 32 ≤ b ∧ b ≤ 126 then b else 0x2E

/-- `serial_fragment(F)` (R125): defined on every frame, whatever its kind. -/
def serialFragment (f : Frame) : Fragment :=
  #v[printable f[3], printable f[4], printable f[5], printable f[6],
     printable f[7], printable f[8], printable f[9], printable f[10]]

/-! ## The host's numbering of table words -/

/-- Byte `i` of a number, byte 0 least significant. -/
def byteOfNat (w i : Nat) : Byte := BitVec.ofNat 8 (w >>> (8 * i))

/-- An 88-bit number as a frame: `F[0]` is bits 87..80 and `F[10]` bits 7..0 (R7, and the bit
numbers of `spec/opcode_table.json`). -/
def frameOfNat (w : Nat) : Frame :=
  #v[byteOfNat w 10, byteOfNat w 9, byteOfNat w 8, byteOfNat w 7, byteOfNat w 6, byteOfNat w 5,
     byteOfNat w 4, byteOfNat w 3, byteOfNat w 2, byteOfNat w 1, byteOfNat w 0]

/-- A number as a host command with all 14 argument bytes given: the code is bits 7..0, argument
byte `i` is bits 8i+15..8i+8 (log 19). -/
def cmdOfNat (w : Nat) : Cmd :=
  { op := byteOfNat w 0
    arg := #v[byteOfNat w 1, byteOfNat w 2, byteOfNat w 3, byteOfNat w 4, byteOfNat w 5,
              byteOfNat w 6, byteOfNat w 7, byteOfNat w 8, byteOfNat w 9, byteOfNat w 10,
              byteOfNat w 11, byteOfNat w 12, byteOfNat w 13, byteOfNat w 14]
    len := 14 }

/-- The packet a table word stands for: the table gives a frame 88 bits and a command code 8; a
command's bits above `nbits` are argument bytes, zero. -/
def packetOfTableWord (nbits w : Nat) : Packet :=
  if nbits = 88 then .frame (frameOfNat w) else .command (cmdOfNat (w % 2 ^ nbits))

/-- The instruction the decoder reads from a table word, `none` where it refuses. -/
def decodeTableWord (nbits w : Nat) : Option Instr :=
  match decode (packetOfTableWord nbits w) with
  | .ok i => some i
  | .error _ => none

end Sys2Proof
end

