-- ==== Sys2Proof/Config.lean ====
section
/-! DEFINITION. What an implementation fixes: the five OPEN parameters of `00_scope.md` R12.
Every constant the spec decides stands in `Sys2Proof/Machine/Constants.lean` and in
`Sys2Proof/Decode.lean` (the kind table). -/

namespace Sys2Proof.Config

/-- The parameters R12 leaves OPEN, in milliseconds. "The model takes them as arguments": they are
an argument of every step, carried in `State.params` and written by no step (log 4). -/
structure Params where
  /-- T_DIR_SETUP_MS: time DIR is held at transmit before the first byte is written. -/
  dirSetup : Word32
  /-- T_DIR_HOLD_MS: time DIR is held at transmit after the flush ends. -/
  dirHold : Word32
  /-- T_FRAME_MS: time the 11 bytes occupy the line. -/
  frame : Word32
  /-- T_TX_GAP_MS: idle time kept after a transmit that awaits no answer. -/
  txGap : Word32
  /-- T_POWER_SETTLE_MS: wait between POWER going to 1 and the first transmit. -/
  powerSettle : Word32
deriving DecidableEq, Repr

/-- DESIGN CHOICE (unsafe, log 4): the defaults R12 lists for the test vectors, which the state after
reset starts from. -/
def defaultParams : Params :=
  { dirSetup := 0, dirHold := 0, frame := 6, txGap := 10, powerSettle := 0 }

end Sys2Proof.Config
end

