-- ==== Sys2Proof/Machine/Constants.lean ====
section
/-! DEFINITION. The constants of `00_scope.md` R10 (fixed by the document) and R11 (decided by the
spec). FRAME_LEN, SYNC, ADDR_NONE and the category bytes are in `Sys2Proof/Decode.lean`. -/

namespace Sys2Proof.Machine

/-- GAP_MS (R10): a boundary needs a gap that exceeds it. -/
def gapMs : Word32 := 8

/-- T_DISCOVER_MS (R10). -/
def tDiscover : Word32 := 100

/-- NORESP_LIMIT (R10). -/
def norespLimit : BitVec 2 := 3

/-- T_SETTLE_MS (R10). -/
def tSettle : Word32 := 4000

/-- T_PASS2_MS (R10). -/
def tPass2 : Word32 := 1000

/-- T_HEARTBEAT_MS (R10). -/
def tHeartbeat : Word32 := 1000

/-- HB_INTERVAL_MS (R10). -/
def hbInterval : Word32 := 15000

/-- T_WARMUP_MS (R11). -/
def tWarmup : Word32 := 1000

/-- T_ENDWARMUP_MS (R11). -/
def tEndWarmup : Word32 := 1000

/-- T_SERIAL_MS (R11). -/
def tSerial : Word32 := 1000

/-- T_BRIGHT_MS (R11). -/
def tBright : Word32 := 1000

/-- T_SETADDR_DRAIN_MS (R11). -/
def tSetAddrDrain : Word32 := 100

/-- BRIGHT_MAX (R10). -/
def brightMax : Byte := 254

/-- AUTO_SHUTOFF_MAX (R10). -/
def autoShutoffMax : Nat := 57600

/-- REC_LEN (R11). -/
def recLen : Nat := 14

/-- DEF_RED (R10). -/
def defRed : Byte := 0x03

/-- DEF_GREEN (R10). -/
def defGreen : Byte := 0xD5

/-- DEF_BLUE (R10). -/
def defBlue : Byte := 0xFF

/-- DEF_BRIGHT (R10). -/
def defBright : Byte := 100

/-- DEF_ACTIVE_S (R11). -/
def defActiveS : Word32 := 0

/-- DEF_WARN_AT (R10). -/
def defWarnAt : Word32 := 349200

/-- DEF_AUTO_SHUTOFF (R10). -/
def defAutoShutoff : BitVec 16 := 18000

end Sys2Proof.Machine
end

