-- ==== Sys2Proof/Machine/State.lean ====
section
/-! DEFINITION. The state of RBC as plain data (`10_state.md` R20 to R52) and the state after reset
(`70_reset_and_hazards.md` R290). -/

namespace Sys2Proof.Machine

/-! ## Deframer, registry, settings -/

/-- The deframer's registers: RXBUF (R22), RXCNT (R23), RXT_LAST (R24). -/
structure Deframer where
  buf : Frame
  cnt : BitVec 4
  tLast : Word32
deriving DecidableEq, Repr

/-- The device lifecycle state, `REG[a].STATE` (R30). -/
inductive DevState where
  | offline | inactive | warmingUp | warmedUp | active
deriving DecidableEq, Repr

/-- One registry slot (R29 to R33). -/
structure Slot where
  present : Bool
  state : DevState
  ser1V : Bool
  ser1 : Fragment
  ser2V : Bool
  ser2 : Fragment
  warmT0V : Bool
  warmT0 : Word32
deriving DecidableEq, Repr

/-- The registry, `REG[0x00..0x1F]` (R28): the only memory of RBC (R70). It is dense, so equal
contents are equal data (log 21). -/
abbrev Registry := Vector Slot 32

/-- The settings registers RED, GREEN, BLUE, BRIGHT, ACTIVE_S, WARN_AT, AUTO_SHUTOFF (R42 to R46). -/
structure Settings where
  red : Byte
  green : Byte
  blue : Byte
  bright : Byte
  activeS : Word32
  warnAt : Word32
  autoShutoff : BitVec 16
deriving DecidableEq, Repr

/-! ## The scheduler's registers -/

/-- BUS_STATE (R35). -/
inductive BusState where
  | offline | powered | warmingUp | repelling | error
deriving DecidableEq, Repr

/-- The answer of a query, Value(v) of R41. -/
inductive Value where
  | number (n : Word32)
  | device (record : Slot)
deriving DecidableEq, Repr

/-- RESULT (R41), in the order of the tags 0 to 12. -/
inductive Result where
  | ok | unchanged | changed | alreadyOn | refused | configError | notRunning | settled
  | notSettled | loaded | defaults
  | value (v : Value)
  | badCommand
deriving DecidableEq, Repr

/-- PROC of SEQ (R40): the procedure in progress. -/
inductive Proc where
  | idle | powerOn | discovery | retrieveSerials | warmUpAll | heartbeatPoll | endWarmUpAll
  | powerOff | setRGB | setBrightness
deriving DecidableEq, Repr

/-- The pseudocode lines that transmit a frame, in the order of `44_procedures.md` R221 to R229 and
`45_settings_accounting.md` R245, R246. -/
inductive Line where
  /-- PowerOn, the PowerUp broadcast (R228). -/
  | powerUp
  /-- Discovery, the Discover exchange (R221). -/
  | discover
  /-- Discovery, the SetAddress exchange; IDX is the address being assigned (R221). -/
  | setAddress
  /-- RetrieveSerials, first fragment (R223). -/
  | serial1
  /-- RetrieveSerials, second fragment (R223). -/
  | serial2
  /-- WarmUpAll pass 1 (R224). -/
  | warmup
  /-- WarmUpAll pass 2, first exchange (R224). -/
  | colorStartup
  /-- WarmUpAll pass 2, second exchange (R224). -/
  | brightnessStartup
  /-- WarmUpAll pass 2, third exchange (R224). -/
  | startupComplete
  /-- HeartbeatPoll (R226). -/
  | heartbeat
  /-- EndWarmUpAll, the PowerUp broadcast (R225). -/
  | rePowerUp
  /-- EndWarmUpAll, first exchange (R225). -/
  | warmupComplete
  /-- EndWarmUpAll, second exchange (R225). -/
  | ledOnConfirm
  /-- PowerOff, the PowerDown broadcast (R229). -/
  | powerDown
  /-- SetRGB, the Color broadcast (R245). -/
  | color
  /-- SetRGB, the ColorConfirm broadcast (R245). -/
  | colorConfirm
  /-- SetBrightness (R246). -/
  | ledBrightness
deriving DecidableEq, Repr

/-- The pseudocode lines that only delay. -/
inductive DelayLine where
  /-- PowerOn, `Delay(T_POWER_SETTLE_MS)` (R228). -/
  | powerSettle
  /-- WarmUpAll, `Delay(T_SETTLE_MS)` (R224). -/
  | warmupSettle
deriving DecidableEq, Repr

/-- Where a transmitting line has got to: the lines of `Transmit` (R201), then the wait loop of
`Exchange` (R203) or the delay of `Broadcast` (R205). -/
inductive Phase where
  /-- The frame stands in TXBUF; `Transmit` begins. -/
  | transmitStart
  /-- `Delay(T_DIR_SETUP_MS)`. -/
  | setup
  /-- Byte `i` is on `tx_data` (R202). -/
  | writing (i : Fin 11)
  /-- The flush: T_FRAME_MS from the first write. -/
  | flush
  /-- `Delay(T_DIR_HOLD_MS)`. -/
  | hold
  /-- The wait loop of `Exchange`. -/
  | answer
  /-- `Delay(T_TX_GAP_MS)` of `Broadcast`. -/
  | pause
deriving DecidableEq, Repr

/-- SEQ, the sequencer (R40): Idle, or the pseudocode line the scheduler has reached, with the slot
the current pass has reached (IDX). R40 leaves the encoding free (log 11). -/
inductive Seq where
  | idle
  | delaying (d : DelayLine)
  | line (l : Line) (idx : Addr) (phase : Phase)
deriving DecidableEq, Repr

/-! ## Diagnostics, inputs -/

/-- The diagnostic codes of R262, in the order of the codes 1 to 10. -/
inductive DiagCode where
  | timeout | unexpected | partialFrame | resync | overflow | noSync | exhausted | config | stale
  | badCmd
deriving DecidableEq, Repr

/-- One diagnostic event (R262). -/
structure Diag where
  code : DiagCode
  info : Byte
deriving DecidableEq, Repr

/-- The input ports in one clock (R50). -/
structure Clock where
  rst : Bool
  now : Word32
  cfgOk : Bool
  rx : Option Byte
  txReady : Bool
  txIdle : Bool
  cmd : Option Cmd
deriving DecidableEq, Repr

/-! ## The state -/

/-- The state of RBC. The first group of fields is R20's registers; the second the model's own:
inputs as last sampled, inputs to come, the OPEN parameters, and what has left on the output ports. -/
structure State where
  /-- RXBUF, RXCNT, RXT_LAST (R22 to R24). -/
  deframer : Deframer
  /-- TXBUF (R25). -/
  txbuf : Frame
  /-- DIR (R26): true is 1, transmit. -/
  dir : Bool
  /-- POWER (R27). -/
  power : Bool
  /-- REG (R28). -/
  reg : Registry
  /-- BUS_STATE (R35). -/
  busState : BusState
  /-- NORESP (R36). -/
  noresp : BitVec 2
  /-- HB_LAST (R37). -/
  hbLast : Word32
  /-- WAIT_T0 (R38). -/
  waitT0 : Word32
  /-- WAIT_TMO (R38). -/
  waitTmo : Word32
  /-- BUSY (R39). -/
  busy : Bool
  /-- SEQ (R40). -/
  seq : Seq
  /-- RESULT (R41). -/
  result : Result
  /-- The output `res_valid` (R50, R220): a command ended in the last clock. -/
  resValid : Bool
  /-- RED, GREEN, BLUE, BRIGHT, ACTIVE_S, WARN_AT, AUTO_SHUTOFF (R42 to R46). -/
  settings : Settings
  /-- SAVE_T (R47). -/
  saveT : Word32
  /-- The input NOW as last sampled (R9). -/
  now : Word32
  /-- The input `cfg_ok` as last sampled (R265). -/
  cfgOk : Bool
  /-- The input ports of the clocks to come (log 2). -/
  inputs : List Clock
  /-- The OPEN parameters (R12, log 4). -/
  params : Config.Params
  /-- NOW at the first write of the frame last sent: the transmitter's, not RBC's; only the default
  clock's `tx_idle` reads it (log 9). -/
  firstWrite : Word32
  /-- The frames transmitted so far, oldest first, each with NOW at the start of its transmit (R51). -/
  txLog : List (Word32 × Frame)
  /-- The results presented so far, oldest first (R51, R79, log 28). -/
  resLog : List Result
  /-- The persistence records emitted so far, oldest first (R51, R241). -/
  saveLog : List Record
  /-- The diagnostic events raised so far, oldest first (R51, R262). -/
  diagLog : List Diag
deriving DecidableEq, Repr

/-- The machine has no fault: R105 (no trap on an illegal frame), R180 (the deframer never blocks),
R236 (every command completes) and R260 (every error class is recovered or parks the bus in Error,
which is a state). The type has no constructor, so nobody raises one (log 20). -/
inductive Fault
deriving DecidableEq, Repr

/-- Why an instruction has no meaning. -/
inductive Refusal where
  /-- Raised only by an arm of `exec` whose instruction has no meaning yet; no arm is left that
  does so. Safe: the machine stops. -/
  | notModelled (mnemonic : String)
deriving DecidableEq, Repr

/-! ## Reset -/

/-- An absent slot after reset (R290). PRESENT, STATE and the three valid bits are the spec's values;
SER1, SER2 and WARM_T0 are unspecified there and all zero here (DESIGN CHOICE, unsafe, log 6). It is
also the all-zero record GetDevice answers with for an absent device (R233). -/
def Slot.absent : Slot :=
  { present := false, state := .offline,
    ser1V := false, ser1 := #v[0, 0, 0, 0, 0, 0, 0, 0],
    ser2V := false, ser2 := #v[0, 0, 0, 0, 0, 0, 0, 0],
    warmT0V := false, warmT0 := 0 }

/-- The compiled-in defaults of the settings registers (R242, R290). -/
def Settings.defaults : Settings :=
  { red := defRed, green := defGreen, blue := defBlue, bright := defBright,
    activeS := defActiveS, warnAt := defWarnAt, autoShutoff := defAutoShutoff }

/-- Eleven zero bytes: RXBUF and TXBUF after reset (DESIGN CHOICE, unsafe, log 5). -/
def zeroFrame : Frame := #v[0, 0, 0, 0, 0, 0, 0, 0, 0, 0, 0]

/-- The state after reset (R290). WAIT_T0 and WAIT_TMO are unspecified there and 0 here (DESIGN CHOICE,
unsafe, log 7); NOW, `firstWrite` are 0 and `cfg_ok` 1 (DESIGN CHOICE, unsafe, log 8); the OPEN parameters have
R12's listed defaults (DESIGN CHOICE, unsafe, log 4). -/
def State.reset : State :=
  { deframer := { buf := zeroFrame, cnt := 0, tLast := 0 }
    txbuf := zeroFrame
    dir := false
    power := false
    reg := Vector.replicate 32 Slot.absent
    busState := .offline
    noresp := 0
    hbLast := 0
    waitT0 := 0
    waitTmo := 0
    busy := false
    seq := .idle
    result := .ok
    resValid := false
    settings := Settings.defaults
    saveT := 0
    now := 0
    cfgOk := true
    inputs := []
    params := Config.defaultParams
    firstWrite := 0
    txLog := []
    resLog := []
    saveLog := []
    diagLog := [] }

end Sys2Proof.Machine
end

