-- ==== Sys2Proof/Machine/Operands.lean ====
section
/-! DEFINITION. Operand forms and arithmetic: elapsed times, normalisation, the brightness scale, the
persistence record, the accounting formulas (`00_scope.md` R8, `45_settings_accounting.md`). -/

namespace Sys2Proof.Machine

/-- `sub32(a, b) = (a - b) mod 2^32` (R8): the elapsed time from `b` to `a`. -/
def sub32 (a b : Word32) : Word32 := a - b

/-- Whole seconds from `t` to `now` (R250, R252): the remainder is dropped. -/
def elapsedSeconds (now t : Word32) : Nat := (sub32 now t).toNat / 1000

/-- Brightness as the registers hold it: 255 becomes 254 (R243). -/
def clampBright (v : Byte) : Byte := if brightMax < v then brightMax else v

/-- Auto-shutoff as the registers hold it: above 57600 becomes 18000 (R243). -/
def clampShutoff (seconds : Nat) : BitVec 16 :=
  if autoShutoffMax < seconds then defAutoShutoff else BitVec.ofNat 16 seconds

/-- `level_of(b) = (100 * b + 127) div 254` (R244), the host scale to the device scale. -/
def levelOf (b : Byte) : Byte := BitVec.ofNat 8 ((100 * b.toNat + 127) / 254)

/-- The sum of R250, saturating at 2^32 - 1. -/
def satAdd (active : Word32) (seconds : Nat) : Word32 :=
  BitVec.ofNat 32 (min (active.toNat + seconds) (2 ^ 32 - 1))

/-- `percent_left` (R251), on the stored counter alone. -/
def percentLeft (active warnAt : Word32) : Nat :=
  if warnAt = 0 then 100
  else if warnAt ≤ active then 0
  else 100 * (warnAt.toNat - active.toNat) / warnAt.toNat

/-- `runtime_hours` (R252): the sum is exact, not saturated. -/
def hoursOf (active : Word32) (inFlight : Nat) : Nat := (active.toNat + inFlight) / 3600

/-- The persistence record of the settings registers (R240). -/
def recordOf (r : Settings) : Record :=
  #v[r.red, r.green, r.blue, r.bright,
     byteOf r.activeS 0, byteOf r.activeS 1, byteOf r.activeS 2, byteOf r.activeS 3,
     byteOf r.warnAt 0, byteOf r.warnAt 1, byteOf r.warnAt 2, byteOf r.warnAt 3,
     r.autoShutoff.extractLsb' 0 8, r.autoShutoff.extractLsb' 8 8]

/-- The settings a whole record loads (R242), normalised by R243. -/
def settingsOfRecord (rec : Record) : Settings :=
  { red := rec[0], green := rec[1], blue := rec[2]
    bright := clampBright rec[3]
    activeS := le32 rec[4] rec[5] rec[6] rec[7]
    warnAt := le32 rec[8] rec[9] rec[10] rec[11]
    autoShutoff := clampShutoff (le16 rec[12] rec[13]).toNat }

end Sys2Proof.Machine
end

