-- ==== Sys2Proof/Machine/Deframer.lean ====
section
/-! DEFINITION. The frame deframer (`41_deframer.md`): the step of R171, part by part. -/

namespace Sys2Proof.Machine

/-- Deframer reset (R181): `RXCNT <- 0`, RXBUF and RXT_LAST keep their values. -/
def Deframer.reset (d : Deframer) : Deframer := { d with cnt := 0 }

/-- A boundary: a frame has started and the gap exceeds GAP_MS, strictly (R173). -/
def Deframer.gapOver (d : Deframer) (now : Word32) : Bool :=
  d.cnt ≠ 0 && gapMs < sub32 now d.tLast

/-- The gap rule, part (1) of R171: at a boundary eleven bytes are emitted, fewer are dropped. -/
def Deframer.gap (d : Deframer) (now : Word32) : Deframer × Option Frame × List Diag :=
  if d.gapOver now then
    if d.cnt = 11 then (d.reset, some d.buf, [])
    else (d.reset, none, [⟨.partialFrame, d.cnt.setWidth 8⟩])
  else (d, none, [])

/-- `RXBUF[0] <- b; RXCNT <- 1; RXT_LAST <- now` (R174, R176). -/
def Deframer.start (d : Deframer) (now : Word32) (b : Byte) : Deframer :=
  { buf := d.buf.set 0 b, cnt := 1, tLast := now }

/-- `RXBUF[RXCNT] <- b; RXCNT <- RXCNT + 1; RXT_LAST <- now` (R178). With RXCNT in 12..15, which R23 calls
illegal and no run reaches, RXBUF keeps its bytes and RXCNT counts on and wraps (DESIGN CHOICE, unsafe,
log 25). -/
def Deframer.append (d : Deframer) (now : Word32) (b : Byte) : Deframer :=
  { buf := d.buf.setIfInBounds d.cnt.toNat b, cnt := d.cnt + 1, tLast := now }

/-- A byte while no frame has started: a sync byte starts one (R174), any other is dropped (R175). -/
def Deframer.idleByte (d : Deframer) (now : Word32) (b : Byte) : Deframer × List Diag :=
  if b = sync then (d.start now b, []) else (d, [⟨.noSync, b⟩])

/-- The byte, part (2) of R171: overflow (R177), start or drop, resynchronise (R176), append (R178). -/
def Deframer.byte (d : Deframer) (now : Word32) (b : Byte) : Deframer × List Diag :=
  if d.cnt = 11 then
    let (d', ds) := d.reset.idleByte now b
    (d', ⟨.overflow, 11⟩ :: ds)
  else if d.cnt = 0 then d.idleByte now b
  else if b = sync then (d.start now b, [⟨.resync, d.cnt.setWidth 8⟩])
  else (d.append now b, [])

/-- `DeframerStep(now, rx)` (R170, R171): a byte step or, with `none`, a poll step. -/
def Deframer.step (d : Deframer) (now : Word32) (rx : Option Byte) :
    Deframer × Option Frame × List Diag :=
  let (d1, out, ds1) := d.gap now
  match rx with
  | none => (d1, out, ds1)
  | some b =>
    let (d2, ds2) := d1.byte now b
    (d2, out, ds1 ++ ds2)

end Sys2Proof.Machine
end

