-- ==== Sys2Proof/Machine/Flags.lean ====
section
/-! DEFINITION. The flag-like predicates of R48, the numeric codes of the enumerations, and the output
ports that are functions of the registers (R50). -/

namespace Sys2Proof.Machine

/-- `On`: BUS_STATE is WarmingUp or Repelling (R35). -/
def State.on (s : State) : Bool := s.busState = .warmingUp || s.busState = .repelling

/-- The heartbeat-due predicate, the output `hb_due` (R232). -/
def State.hbDue (s : State) : Bool := s.on && hbInterval ≤ sub32 s.now s.hbLast

/-- The current wait is over: `sub32(NOW, WAIT_T0) >= WAIT_TMO` (R203, R210). -/
def State.waitOver (s : State) : Bool := s.waitTmo ≤ sub32 s.now s.waitT0

/-- The output `cmd_ready` = NOT BUSY (R50). -/
def State.cmdReady (s : State) : Bool := !s.busy

/-- The outputs `tx_valid`, `tx_data` (R50, R202): the byte being written, if any. -/
def State.txOut (s : State) : Option Byte :=
  match s.seq with
  | .line _ _ (.writing i) => some (s.txbuf.get i)
  | _ => none

/-- The code of a bus state (R35). -/
def BusState.code : BusState → Nat
  | .offline => 0
  | .powered => 1
  | .warmingUp => 2
  | .repelling => 3
  | .error => 4

/-- The code of a device state (R30). -/
def DevState.code : DevState → Nat
  | .offline => 0
  | .inactive => 1
  | .warmingUp => 2
  | .warmedUp => 3
  | .active => 4

/-- The tag of a result (R41), the output `res_tag`. -/
def Result.tag : Result → Nat
  | .ok => 0
  | .unchanged => 1
  | .changed => 2
  | .alreadyOn => 3
  | .refused => 4
  | .configError => 5
  | .notRunning => 6
  | .settled => 7
  | .notSettled => 8
  | .loaded => 9
  | .defaults => 10
  | .value _ => 11
  | .badCommand => 12

/-- The number of a diagnostic code (R262). -/
def DiagCode.number : DiagCode → Nat
  | .timeout => 1
  | .unexpected => 2
  | .partialFrame => 3
  | .resync => 4
  | .overflow => 5
  | .noSync => 6
  | .exhausted => 7
  | .config => 8
  | .stale => 9
  | .badCmd => 10

/-- PROC of a transmitting line (R40). -/
def Line.proc : Line → Proc
  | .powerUp => .powerOn
  | .discover | .setAddress => .discovery
  | .serial1 | .serial2 => .retrieveSerials
  | .warmup | .colorStartup | .brightnessStartup | .startupComplete => .warmUpAll
  | .heartbeat => .heartbeatPoll
  | .rePowerUp | .warmupComplete | .ledOnConfirm => .endWarmUpAll
  | .powerDown => .powerOff
  | .color | .colorConfirm => .setRGB
  | .ledBrightness => .setBrightness

/-- PROC of SEQ (R40). -/
def Seq.proc : Seq → Proc
  | .idle => .idle
  | .delaying .powerSettle => .powerOn
  | .delaying .warmupSettle => .warmUpAll
  | .line l _ _ => l.proc

end Sys2Proof.Machine
end

