-- ==== Sys2Proof/Machine/Registry.lean ====
section
/-! DEFINITION. The device registry (`42_registry.md`): MemRead and MemWrite, the three operations, and
the order of iteration. -/

namespace Sys2Proof.Machine

/-- `MemRead(a, ·)` (R198): the record of slot `a`, whose fields a rule reads by name. -/
def Registry.slot (reg : Registry) (a : Addr) : Slot := reg.get a.toFin

/-- `MemWrite(a, ·, v)` (R198): `f` replaces the fields a rule names; every other slot stays. -/
def Registry.write (reg : Registry) (a : Addr) (f : Slot → Slot) : Registry :=
  reg.set a.toNat (f (reg.slot a)) a.isLt

/-- The slot `i` exists and holds a record. -/
def Registry.present (reg : Registry) (i : Nat) : Bool := ((reg[i]?).map Slot.present).getD false

/-- The first index at or after `i`, among the next `fuel`, that satisfies `p`. -/
def firstIndex (p : Nat → Bool) : (fuel i : Nat) → Option Nat
  | 0, _ => none
  | fuel + 1, i => if p i then some i else firstIndex p fuel (i + 1)

/-- `Reg.find(a)` (R191). -/
def Registry.find (reg : Registry) (a : Byte) : Option Addr :=
  if reg.present a.toNat then some (addrOfByte a) else none

/-- A record just created (R192): Offline, nothing valid. SER1, SER2 and WARM_T0 are not written. -/
def Slot.create (r : Slot) : Slot :=
  { r with present := true, state := .offline, ser1V := false, ser2V := false, warmT0V := false }

/-- `Reg.get_or_create(a)` (R192): the registry after it, and the slot index or `none`. -/
def Registry.getOrCreate (reg : Registry) (a : Byte) : Registry × Option Addr :=
  if 0x1F < a then (reg, none)
  else
    let slot := addrOfByte a
    if (reg.slot slot).present then (reg, some slot)
    else (reg.write slot Slot.create, some slot)

/-- `Reg.first_free()` (R193): the lowest absent slot of 0x01..0x1F, or the sentinel 0x20. -/
def Registry.firstFree (reg : Registry) : Byte :=
  match firstIndex (fun i => !reg.present i) 31 1 with
  | some i => BitVec.ofNat 8 i
  | none => addrNone

/-- The next present slot at or after `i`, in ascending order (R194), that satisfies `p`. -/
def Registry.next (reg : Registry) (p : Slot → Bool) (i : Nat) : Option Addr :=
  (firstIndex (fun j => reg.present j && p (reg.slot (BitVec.ofNat 5 j))) (32 - i) i).map
    (BitVec.ofNat 5)

/-- The number of present devices in state `st` (R226). -/
def Registry.count (reg : Registry) (st : DevState) : Nat :=
  reg.toList.countP fun r => r.present && r.state = st

/-- `for each present device a: MemWrite(a, STATE, Offline)` (R229, R266). -/
def Registry.allOffline (reg : Registry) : Registry :=
  ⟨⟨reg.toList.map fun r => if r.present then { r with state := .offline } else r⟩, by simp⟩

/-- What GetDevice shows of a present slot: a field whose valid bit is 0 is returned as 0 (R233). -/
def Slot.shown (r : Slot) : Slot :=
  { r with
    ser1 := if r.ser1V then r.ser1 else Slot.absent.ser1
    ser2 := if r.ser2V then r.ser2 else Slot.absent.ser2
    warmT0 := if r.warmT0V then r.warmT0 else 0 }

/-- The record GetDevice returns for address `a` (R233). -/
def Registry.record (reg : Registry) (a : Byte) : Slot :=
  match reg.find a with
  | some slot => (reg.slot slot).shown
  | none => Slot.absent

/-- A byte the printable filter leaves alone (R124). -/
def isPrintable (b : Byte) : Bool := 32 ≤ b && b ≤ 126

/-- The canonical form of one slot: an absent slot is as reset left it, and a valid serial fragment
holds printable bytes only (R29, R31, R32, R34). -/
def Slot.wf (r : Slot) : Bool :=
  (r.present || r = Slot.absent) && (!r.ser1V || r.ser1.toList.all isPrintable)
    && (!r.ser2V || r.ser2.toList.all isPrintable)

/-- The canonical form of the memory of RBC: every slot is in canonical form (log 21). -/
def Memory.wf (reg : Registry) : Bool := reg.toList.all Slot.wf

end Sys2Proof.Machine
end

