-- ==== Sys2Proof/Machine/Ops.lean ====
section
/-! DEFINITION. The shared operations on the state: diagnostics, persistence, accounting, TAKING THE
ERROR TRAP (EnterError, R266), command acceptance and completion, and the lines of `Transmit`. -/

namespace Sys2Proof.Machine

/-- `raise Diag(code, info)` (R262): one event on the diagnostic port, nothing else. -/
def State.raise (s : State) (code : DiagCode) (info : Byte) : State :=
  { s with diagLog := s.diagLog ++ [⟨code, info⟩] }

/-- `MemWrite(a, ·, v)` on the state (R198). -/
def State.memWrite (s : State) (a : Addr) (f : Slot → Slot) : State :=
  { s with reg := s.reg.write a f }

/-- `MemWrite(a, STATE, v)` (R197). -/
def State.setDevState (s : State) (a : Addr) (v : DevState) : State :=
  s.memWrite a fun r => { r with state := v }

/-- `Reg.get_or_create(a); MemWrite(a, STATE, Inactive)` (R221). -/
def State.register (s : State) (a : Addr) : State :=
  State.setDevState { s with reg := (s.reg.getOrCreate (byteOfAddr a)).1 } a .inactive

/-- `Persist()` (R241): the record leaves on the save port. -/
def State.persist (s : State) : State := { s with saveLog := s.saveLog ++ [recordOf s.settings] }

/-- `ACTIVE_S` after a save (R250): it grows only while the bus is On. -/
def State.accrued (s : State) : Word32 :=
  if s.on then satAdd s.settings.activeS (elapsedSeconds s.now s.saveT) else s.settings.activeS

/-- `SaveRuntime()` (R250). -/
def State.saveRuntime (s : State) : State :=
  let s1 : State := { s with settings := { s.settings with activeS := s.accrued }, saveT := s.now }
  if s.accrued = s.settings.activeS then s1 else s1.persist

/-- `EnterError()` (R266), the trap entry of RBC. It saves the elapsed active time and nothing else:
there is no cause register, no return point and no return operation (R267). -/
def State.enterError (s : State) : State :=
  let s1 := (s.raise .config (BitVec.ofNat 8 s.busState.code)).saveRuntime
  { s1 with power := false, dir := false, reg := s1.reg.allOffline, busState := .error }

/-- The end of a command (R220): RESULT is written and presented, SEQ goes to Idle, BUSY to 0. Where two
commands end in one clock, RESULT keeps the second result and `resLog` both, in order (DESIGN CHOICE,
log 28). -/
def State.finish (s : State) (r : Result) : State :=
  { s with
    result := r, resValid := true, resLog := s.resLog ++ [r], seq := .idle, busy := false }

/-- `if not ConfigGuard(): return ConfigError` (R265) before the rest of a guarded command. -/
def State.guarded (s : State) (body : State → State) : State :=
  if s.cfgOk then body s
  else
    let s1 := if s.busState = .error then s else s.enterError
    s1.finish .configError

/-- Acceptance of a host command (R220): only if BUSY = 0, and then BUSY is 1 while `body` runs. A
command presented while BUSY = 1 changes nothing. -/
def acceptCommand (body : State → State) (s : State) : Host.Outcome State Fault Refusal :=
  if s.busy then .next s else .next (body { s with busy := true })

/-- `Rebind`'s effect and the third line of `Transmit`: the deframer reset (R181). -/
def State.deframerReset (s : State) : State := { s with deframer := s.deframer.reset }

/-- `WAIT_T0 <- NOW; WAIT_TMO <- n` (R203, R210). -/
def State.startWait (s : State) (n : Word32) : State := { s with waitT0 := s.now, waitTmo := n }

/-- `Delay(n)` as a line of its own (R210). -/
def State.startDelay (s : State) (d : DelayLine) (n : Word32) : State :=
  { s.startWait n with seq := .delaying d }

/-- The call of `Transmit(f)` by line `l`: the built frame is in TXBUF, and the transmit is the next
thing the scheduler does. -/
def State.load (s : State) (l : Line) (a : Addr) (f : Frame) : State :=
  { s with txbuf := f, seq := .line l a .transmitStart }

/-- `Transmit(f)` begins (R201): `TXBUF <- f; DIR <- 1; RXCNT <- 0`, and `Delay(T_DIR_SETUP_MS)`. -/
def State.beginTransmit (s : State) (l : Line) (a : Addr) (f : Frame) : State :=
  { (s.deframerReset).startWait s.params.dirSetup with
    txbuf := f
    dir := true
    txLog := s.txLog ++ [(s.now, f)]
    seq := .line l a .setup }

/-- One deframer step at the current NOW (R171), its diagnostics raised in pseudocode order. -/
def State.deframe (s : State) (rx : Option Byte) : State × Option Frame :=
  let (d, out, ds) := s.deframer.step s.now rx
  ({ s with deframer := d, diagLog := s.diagLog ++ ds }, out)

/-- A frame emitted outside an exchange wait is dropped (R206). -/
def State.dropStale (s : State) (emitted : Option Frame) : State :=
  match emitted with
  | some f => s.raise .stale (classify f).id
  | none => s

end Sys2Proof.Machine
end

