-- ==== Sys2Proof/Machine/Procedures.lean ====
section
/-! DEFINITION. The scheduler's procedures (`44_procedures.md` R221 to R229, `45_settings_accounting.md`
R245, R246) as continuations: what the pseudocode does between two waits. A definition `…From i` is a
`for each present device` loop at index `i` (R194); `returned` is the code after an exchange, `sent`
the code after a broadcast, `delayed` the code after a delay line. -/

namespace Sys2Proof.Machine

/-! ## Lines -/

/-- The request a line builds (R221 to R229, R245, R246), from its slot index and the settings. -/
def Line.request (l : Line) (a : Addr) (r : Settings) : Frame :=
  match l with
  | .powerUp => frameSYS .powerUp
  | .discover => frameSYS .discover
  | .setAddress => frameBCA .setAddress a
  | .serial1 => frameREQ .serialRequest1 a
  | .serial2 => frameREQ .serialRequest2 a
  | .warmup => frameREQ .warmup a
  | .colorStartup => frameREQC .colorStartup a r.red r.green r.blue
  | .brightnessStartup => frameREQL .ledBrightnessStartup a (levelOf r.bright)
  | .startupComplete => frameREQ .startupComplete a
  | .heartbeat => frameREQ .heartbeat a
  | .rePowerUp => frameSYS .powerUp
  | .warmupComplete => frameREQ .warmupComplete a
  | .ledOnConfirm => frameREQ .ledOnConfirm a
  | .powerDown => frameSYS .powerDown
  | .color => frameBCC .color r.red r.green r.blue
  | .colorConfirm => frameSYS .colorConfirm
  | .ledBrightness => frameREQL .ledBrightness a (levelOf r.bright)

/-- The timeout of the exchange a line performs (R209); `none` for a broadcast, which awaits no
answer (R205). -/
def Line.window : Line → Option Word32
  | .discover => some tDiscover
  | .setAddress => some tSetAddrDrain
  | .serial1 | .serial2 => some tSerial
  | .warmup => some tWarmup
  | .colorStartup | .brightnessStartup | .startupComplete => some tPass2
  | .heartbeat => some tHeartbeat
  | .warmupComplete | .ledOnConfirm => some tEndWarmup
  | .ledBrightness => some tBright
  | .powerUp | .rePowerUp | .powerDown | .color | .colorConfirm => none

/-- The scheduler reaches line `l` for slot `a`: the request is built and `Transmit` is called. -/
def State.enter (s : State) (l : Line) (a : Addr) : State := s.load l a (l.request a s.settings)

/-- `Expect` after its exchange returned `r` (R204): the expected kind runs `onOk`, any other kind
raises UNEXPECTED, silence does nothing more. -/
def State.expect (s : State) (r : Option (MessageKind × Frame)) (k : MessageKind)
    (onOk : Frame → State → State) : State :=
  match r with
  | some (k', f) => if k' = k then onOk f s else s.raise .unexpected k'.id
  | none => s

/-- The body of a `for each present device` loop from index `i`: line `l` for the next present
device, or `done` past the end of the loop (R194, R237). -/
def State.loopFrom (s : State) (l : Line) (i : Nat) (done : State → State) : State :=
  match s.reg.next (fun _ => true) i with
  | some a => s.enter l a
  | none => done s

/-! ## PowerOn, from its end backwards -/

/-- The last two lines of PowerOn (R228). -/
def State.endPowerOn (s : State) : State := { s with hbLast := s.now }.finish .ok

/-- WarmUpAll, pass 2 (R224). -/
def State.pass2From (s : State) (i : Nat) : State := s.loopFrom .colorStartup i State.endPowerOn

/-- WarmUpAll, pass 1, and the settle delay after it (R224). -/
def State.pass1From (s : State) (i : Nat) : State :=
  s.loopFrom .warmup i fun s => s.startDelay .warmupSettle tSettle

/-- `SaveRuntime(); BUS_STATE <- WarmingUp; WarmUpAll()` (R228). -/
def State.enterWarmUp (s : State) : State :=
  State.pass1From { s.saveRuntime with busState := .warmingUp } 0

/-- RetrieveSerials from slot index `i` (R223): the next present device with a fragment missing. -/
def State.retrieveFrom (s : State) (i : Nat) : State :=
  match s.reg.next (fun r => !r.ser1V || !r.ser2V) i with
  | some a => if (s.reg.slot a).ser1V then s.enter .serial2 a else s.enter .serial1 a
  | none => s.enterWarmUp

/-- The `while NORESP < 3` of Discovery, and RetrieveSerials after it (R221). -/
def State.discoveryLoop (s : State) : State :=
  if s.noresp < norespLimit then s.enter .discover 0 else s.retrieveFrom 0

/-- A productive round: `NORESP <- 0` (R221). -/
def State.productive (s : State) : State := State.discoveryLoop { s with noresp := 0 }

/-- A no-response: `NORESP <- NORESP + 1` (R221). -/
def State.unproductive (s : State) : State := State.discoveryLoop { s with noresp := s.noresp + 1 }

/-- Discovery after the Discover exchange (R221, steps 3 to 6). -/
def State.discovered (s : State) (r : Option (MessageKind × Frame)) : State :=
  match r with
  | none => s.unproductive
  | some (.startupAck, f) => (s.register (addrOfByte f[3])).productive
  | some (.startupAckUnaddressed, _) =>
    let a := s.reg.firstFree
    if a = addrNone then (s.raise .exhausted addrNone).unproductive
    else s.enter .setAddress (addrOfByte a)
  | some (k, _) => (s.raise .unexpected k.id).unproductive

/-- RetrieveSerials after SerialRequest1 to slot `a` (R223). -/
def State.gotSerial1 (s : State) (a : Addr) (r : Option (MessageKind × Frame)) : State :=
  let s1 := s.expect r .serialReply1 fun f s =>
    s.memWrite a fun slot => { slot with ser1 := serialFragment f, ser1V := true }
  if (s1.reg.slot a).ser2V then s1.retrieveFrom (a.toNat + 1) else s1.enter .serial2 a

/-- RetrieveSerials after SerialRequest2 to slot `a` (R223). -/
def State.gotSerial2 (s : State) (a : Addr) (r : Option (MessageKind × Frame)) : State :=
  let s1 := s.expect r .serialReply2 fun f s =>
    s.memWrite a fun slot => { slot with ser2 := serialFragment f, ser2V := true }
  s1.retrieveFrom (a.toNat + 1)

/-- WarmUpAll pass 1 after Warmup to slot `a` (R224). -/
def State.gotWarmup (s : State) (a : Addr) (r : Option (MessageKind × Frame)) : State :=
  let s1 := s.expect r .warmupAck fun _ s =>
    s.memWrite a fun slot => { slot with state := .warmingUp, warmT0 := s.now, warmT0V := true }
  s1.pass1From (a.toNat + 1)

/-! ## HeartbeatPoll -/

/-- EndWarmUpAll's loop and its last line (R225). -/
def State.endWarmUpFrom (s : State) (i : Nat) : State :=
  s.loopFrom .warmupComplete i fun s => State.finish { s with busState := .repelling } .notSettled

/-- HeartbeatPoll's aggregate over the states after the sweep (R226). -/
def State.aggregate (s : State) : State :=
  if s.reg.count .warmingUp = 0 then
    if s.reg.count .warmedUp = 0 then s.finish .settled else s.enter .rePowerUp 0
  else s.finish .notSettled

/-- HeartbeatPoll's sweep (R226). -/
def State.heartbeatFrom (s : State) (i : Nat) : State := s.loopFrom .heartbeat i State.aggregate

/-- HeartbeatPoll after Heartbeat to slot `a` (R226). -/
def State.gotHeartbeat (s : State) (a : Addr) (r : Option (MessageKind × Frame)) : State :=
  let s1 :=
    match r with
    | none => s
    | some (.warmupAck, _) => s.setDevState a .warmingUp
    | some (.warmupCompleteAck, _) => s.setDevState a .warmedUp
    | some (.heartbeatRunning, _) => s.setDevState a .active
    | some (k, _) => s.raise .unexpected k.id
  s1.heartbeatFrom (a.toNat + 1)

/-- EndWarmUpAll after LedOnConfirm to slot `a` (R225, C2). -/
def State.gotLedOn (s : State) (a : Addr) (r : Option (MessageKind × Frame)) : State :=
  let s1 := s.expect r .ledOnAck fun _ s => s.setDevState a .active
  s1.endWarmUpFrom (a.toNat + 1)

/-! ## SetBrightness -/

/-- SetBrightness's loop and its last line (R246). -/
def State.brightnessFrom (s : State) (i : Nat) : State :=
  s.loopFrom .ledBrightness i fun s => s.finish .changed

/-! ## The continuations -/

/-- What the line after the exchange of line `l` does with the exchange's result `r` (R203). -/
def State.returned (s : State) (l : Line) (a : Addr) (r : Option (MessageKind × Frame)) : State :=
  match l with
  | .discover => s.discovered r
  | .setAddress => (s.register a).productive
  | .serial1 => s.gotSerial1 a r
  | .serial2 => s.gotSerial2 a r
  | .warmup => s.gotWarmup a r
  | .colorStartup => (s.expect r .colorStartupAck fun _ s => s).enter .brightnessStartup a
  | .brightnessStartup =>
    (s.expect r .ledBrightnessAckStartup fun _ s => s).enter .startupComplete a
  | .startupComplete =>
    (s.expect r .startupCompleteAck fun _ s => s).pass2From (a.toNat + 1)
  | .heartbeat => s.gotHeartbeat a r
  | .warmupComplete => (s.expect r .warmupCompleteAck fun _ s => s).enter .ledOnConfirm a
  | .ledOnConfirm => s.gotLedOn a r
  | .ledBrightness =>
    (s.expect r .ledBrightnessAck fun _ s => s).brightnessFrom (a.toNat + 1)
  -- broadcasts await no answer
  | .powerUp | .rePowerUp | .powerDown | .color | .colorConfirm => s

/-- The window of line `l`'s exchange closes with no frame (R203): `Diag(TIMEOUT)` with `F[1]` of the
request (R262), and the exchange returns None. The request is built again from its line: no rule reads
TXBUF once the transmit has ended (R25). -/
def State.timedOut (s : State) (l : Line) (a : Addr) : State :=
  (s.raise .timeout (l.request a s.settings)[1]).returned l a none

/-- What the line after the broadcast of line `l` does (R205). -/
def State.sent (s : State) (l : Line) : State :=
  match l with
  | .powerUp => State.discoveryLoop { s with noresp := 0 }
  | .rePowerUp => s.endWarmUpFrom 0
  | .powerDown =>
    State.finish { s with reg := s.reg.allOffline, power := false, busState := .offline } .ok
  | .color => s.enter .colorConfirm 0
  | .colorConfirm => s.finish .changed
  -- exchanges
  | .discover | .setAddress | .serial1 | .serial2 | .warmup | .colorStartup | .brightnessStartup
  | .startupComplete | .heartbeat | .warmupComplete | .ledOnConfirm | .ledBrightness => s

/-- What the line after a delay line does. -/
def State.delayed (s : State) (d : DelayLine) : State :=
  match d with
  | .powerSettle => s.enter .powerUp 0
  | .warmupSettle => s.pass2From 0

/-! ## Frames as instructions -/

/-- A frame kind as an instruction. Where line `l` is about to transmit, it is the frame that goes out
(R201; a build refused by R122 transmits nothing). Where line `l` waits for an answer, it is the
frame received, and decides the exchange (R203). Anywhere else it is a frame nobody waits for (R206).
`legal` says that `build` accepts its operands, `k` is its kind, `f` its frame. -/
def frameMeaning (legal : Bool) (k : MessageKind) (f : Frame) (s : State) :
    Host.Outcome State Fault Refusal :=
  match s.seq with
  | .line l a .transmitStart => if legal then .next (s.beginTransmit l a f) else .next s
  | .line l a .answer => .next (s.returned l a (some (k, f)))
  | .line _ _ .setup | .line _ _ (.writing _) | .line _ _ .flush | .line _ _ .hold
  | .line _ _ .pause | .idle | .delaying _ => .next (s.raise .stale k.id)

end Sys2Proof.Machine
end

