-- ==== Sys2Proof/Machine/PowerCommands.lean ====
section
/-! DEFINITION. The commands that run the bus: PowerOn, PowerOff, HeartbeatPoll, SaveRuntime, Rebind
(`44_procedures.md`, `45_settings_accounting.md` R250). -/

namespace Sys2Proof.Machine

/-- PowerOn up to its first wait (R228): the rest is `delayed .powerSettle` and what follows it. -/
def powerOnBody (s : State) : State :=
  s.guarded fun s =>
    if s.busState = .error then s.finish .refused
    else if s.busState ≠ .offline then s.finish .alreadyOn
    else
      State.startDelay { s with power := true, busState := .powered } .powerSettle
        s.params.powerSettle

/-- PowerOff up to its broadcast (R229): the rest is `sent .powerDown`. -/
def powerOffBody (s : State) : State :=
  s.guarded fun s =>
    if s.busState = .offline ∨ s.busState = .error then State.finish { s with power := false } .ok
    else s.saveRuntime.enter .powerDown 0

/-- HeartbeatPoll up to its first exchange (R226): the rest is `gotHeartbeat`. -/
def heartbeatPollBody (s : State) : State :=
  s.guarded fun s =>
    if s.on then State.heartbeatFrom { s with hbLast := s.now } 0 else s.finish .notRunning

/-- SaveRuntime as a command (R250). -/
def saveRuntimeBody (s : State) : State := s.saveRuntime.finish .ok

/-- Rebind (R231): the deframer reset and nothing else. -/
def rebindBody (s : State) : State := s.deframerReset.finish .ok

/-- PowerOn, command 0x01 (R228). -/
def execPowerOn (s : State) : Host.Outcome State Fault Refusal := acceptCommand powerOnBody s

/-- PowerOff, command 0x02 (R229). -/
def execPowerOff (s : State) : Host.Outcome State Fault Refusal := acceptCommand powerOffBody s

/-- HeartbeatPoll, command 0x03 (R226). -/
def execHeartbeatPoll (s : State) : Host.Outcome State Fault Refusal :=
  acceptCommand heartbeatPollBody s

/-- SaveRuntime, command 0x04 (R250). -/
def execSaveRuntime (s : State) : Host.Outcome State Fault Refusal :=
  acceptCommand saveRuntimeBody s

/-- Rebind, command 0x30 (R231). -/
def execRebind (s : State) : Host.Outcome State Fault Refusal :=
  acceptCommand rebindBody s

end Sys2Proof.Machine
end

