-- ==== Sys2Proof/Machine/QueryCommands.lean ====
section
/-! DEFINITION. The query commands (R232, R233, R251, R252): each answers with Value(v) and changes no
register but RESULT. -/

namespace Sys2Proof.Machine

/-- The end of a query whose answer is a number. -/
def State.answerNumber (s : State) (n : Nat) : State :=
  s.finish (.value (.number (BitVec.ofNat 32 n)))

/-- The in-flight seconds of R252. -/
def State.inFlight (s : State) : Nat := if s.on then elapsedSeconds s.now s.saveT else 0

/-- The code of BUS_STATE (R233). -/
def getBusStateBody (s : State) : State := s.answerNumber s.busState.code

/-- The record of the device at address `a` (R233). -/
def getDeviceBody (a : Byte) (s : State) : State := s.finish (.value (.device (s.reg.record a)))

/-- The runtime in hours (R252). -/
def getRuntimeHoursBody (s : State) : State :=
  s.answerNumber (hoursOf s.settings.activeS s.inFlight)

/-- The percentage of the cartridge left (R251). -/
def getPercentLeftBody (s : State) : State :=
  s.answerNumber (percentLeft s.settings.activeS s.settings.warnAt)

/-- 1 when a heartbeat is due, else 0 (R232). -/
def getHeartbeatDueBody (s : State) : State := s.answerNumber (if s.hbDue then 1 else 0)

/-- GetBusState, command 0x20 (R233). -/
def execGetBusState (s : State) : Host.Outcome State Fault Refusal :=
  acceptCommand getBusStateBody s

/-- GetDevice, command 0x21 (R233). -/
def execGetDevice (a : Byte) (s : State) : Host.Outcome State Fault Refusal :=
  acceptCommand (getDeviceBody a) s

/-- GetRuntimeHours, command 0x22 (R252). -/
def execGetRuntimeHours (s : State) : Host.Outcome State Fault Refusal :=
  acceptCommand getRuntimeHoursBody s

/-- GetPercentLeft, command 0x23 (R251). -/
def execGetPercentLeft (s : State) : Host.Outcome State Fault Refusal :=
  acceptCommand getPercentLeftBody s

/-- GetHeartbeatDue, command 0x24 (R232). -/
def execGetHeartbeatDue (s : State) : Host.Outcome State Fault Refusal :=
  acceptCommand getHeartbeatDueBody s

end Sys2Proof.Machine
end

