-- ==== Sys2Proof/WellFormed.lean ====
section
/-! DEFINITION. When an instruction's operands are in the domain the spec gives them: for a frame
kind the domain of `build` (R122), for a command what the command port can carry (R50). -/

namespace Sys2Proof

/-- Operand ranges (R97, R122): SetAddress and StartupAck take 0x01..0x1F, a level is at most 100,
and the command port carries at most 14 bytes of record (R50). Addresses above 0x1F cannot be
written down: the field has 5 bits. -/
def Instr.wellFormed : Instr → Bool
  | .startupAck a _ => a ≠ 0
  | .setAddress a => a ≠ 0
  | .ledBrightness _ level => level ≤ 100
  | .ledBrightnessStartup _ level => level ≤ 100
  | .loadSettings bytes => bytes.length ≤ 14
  | .discover | .powerUp | .powerDown | .startupAckUnaddressed _ | .serialReply1 _
  | .serialReply2 _ | .warmupAck _ | .warmupCompleteAck _ | .heartbeatRunning _
  | .ledBrightnessAck _ | .ledBrightnessAckStartup _ | .colorStartupAck _ | .ledOnAck _
  | .startupCompleteAck _ | .color _ _ _ | .colorConfirm | .heartbeat _ | .serialRequest1 _
  | .serialRequest2 _ | .warmup _ | .warmupComplete _ | .ledOnConfirm _ | .startupComplete _
  | .colorStartup _ _ _ _ | .powerOn | .powerOff | .heartbeatPoll | .saveRuntime | .setRGB _ _ _
  | .setBrightness _ | .setWarnAt _ | .setAutoShutoff _ | .getBusState | .getDevice _
  | .getRuntimeHours | .getPercentLeft | .getHeartbeatDue | .rebind => true

end Sys2Proof
end

