-- ==== Sys2Proof/Machine/Requests.lean ====
section
/-! DEFINITION. The 16 request kinds (R127 to R142). RBC transmits them; one that is received is no answer
to anything (R104). -/

namespace Sys2Proof.Machine

/-- Discover (R127). Sent by Discovery, one per round. -/
def execDiscover (s : State) : Host.Outcome State Fault Refusal :=
  frameMeaning true .discover (frameSYS .discover) s

/-- PowerUp (R128). Broadcast by PowerOn and EndWarmUpAll. -/
def execPowerUp (s : State) : Host.Outcome State Fault Refusal :=
  frameMeaning true .powerUp (frameSYS .powerUp) s

/-- PowerDown (R129). Broadcast by PowerOff. -/
def execPowerDown (s : State) : Host.Outcome State Fault Refusal :=
  frameMeaning true .powerDown (frameSYS .powerDown) s

/-- Heartbeat (R130). Sent by HeartbeatPoll. -/
def execHeartbeat (a : Addr) (s : State) : Host.Outcome State Fault Refusal :=
  frameMeaning true .heartbeat (frameREQ .heartbeat a) s

/-- LedOnConfirm (R131). Sent by EndWarmUpAll. -/
def execLedOnConfirm (a : Addr) (s : State) : Host.Outcome State Fault Refusal :=
  frameMeaning true .ledOnConfirm (frameREQ .ledOnConfirm a) s

/-- SerialRequest1 (R132). Sent by RetrieveSerials. -/
def execSerialRequest1 (a : Addr) (s : State) : Host.Outcome State Fault Refusal :=
  frameMeaning true .serialRequest1 (frameREQ .serialRequest1 a) s

/-- SerialRequest2 (R133). Sent by RetrieveSerials. -/
def execSerialRequest2 (a : Addr) (s : State) : Host.Outcome State Fault Refusal :=
  frameMeaning true .serialRequest2 (frameREQ .serialRequest2 a) s

/-- Warmup (R134). Sent by WarmUpAll pass 1. -/
def execWarmup (a : Addr) (s : State) : Host.Outcome State Fault Refusal :=
  frameMeaning true .warmup (frameREQ .warmup a) s

/-- WarmupComplete (R135). Sent by EndWarmUpAll. -/
def execWarmupComplete (a : Addr) (s : State) : Host.Outcome State Fault Refusal :=
  frameMeaning true .warmupComplete (frameREQ .warmupComplete a) s

/-- SetAddress (R136). Sent by Discovery; `build` refuses address 0. -/
def execSetAddress (a : Addr) (s : State) : Host.Outcome State Fault Refusal :=
  frameMeaning (Instr.wellFormed (.setAddress a)) .setAddress (frameBCA .setAddress a) s

/-- LedBrightness (R137). Sent by SetBrightness; `build` refuses a level above 100. -/
def execLedBrightness (a : Addr) (level : Byte) (s : State) : Host.Outcome State Fault Refusal :=
  frameMeaning (Instr.wellFormed (.ledBrightness a level)) .ledBrightness (frameREQL .ledBrightness a level) s

/-- LedBrightnessStartup (R138). Sent by WarmUpAll pass 2; `build` refuses a level above 100. -/
def execLedBrightnessStartup (a : Addr) (level : Byte) (s : State) : Host.Outcome State Fault Refusal :=
  frameMeaning (Instr.wellFormed (.ledBrightnessStartup a level)) .ledBrightnessStartup (frameREQL .ledBrightnessStartup a level) s

/-- Color (R139). Broadcast by SetRGB. -/
def execColor (r g b : Byte) (s : State) : Host.Outcome State Fault Refusal :=
  frameMeaning true .color (frameBCC .color r g b) s

/-- ColorStartup (R140). Sent by WarmUpAll pass 2. -/
def execColorStartup (a : Addr) (r g b : Byte) (s : State) : Host.Outcome State Fault Refusal :=
  frameMeaning true .colorStartup (frameREQC .colorStartup a r g b) s

/-- ColorConfirm (R141). Broadcast by SetRGB after Color. -/
def execColorConfirm (s : State) : Host.Outcome State Fault Refusal :=
  frameMeaning true .colorConfirm (frameSYS .colorConfirm) s

/-- StartupComplete (R142). Sent by WarmUpAll pass 2. -/
def execStartupComplete (a : Addr) (s : State) : Host.Outcome State Fault Refusal :=
  frameMeaning true .startupComplete (frameREQ .startupComplete a) s

end Sys2Proof.Machine
end

