-- ==== Sys2Proof/Machine/Responses.lean ====
section
/-! DEFINITION. The 12 response kinds (R143 to R154). RBC receives them as answers; the codec can build them
as well (R104). -/

namespace Sys2Proof.Machine

/-- StartupAck (R143). Answers Discover from a device that has an address; `build` refuses address 0. -/
def execStartupAck (a : Addr) (x : Payload) (s : State) : Host.Outcome State Fault Refusal :=
  frameMeaning (Instr.wellFormed (.startupAck a x)) .startupAck (frameRSPI .startupAck a x) s

/-- StartupAckUnaddressed (R144). Answers Discover from a device that has no address. -/
def execStartupAckUnaddressed (x : Payload) (s : State) : Host.Outcome State Fault Refusal :=
  frameMeaning true .startupAckUnaddressed (frameRSPI .startupAckUnaddressed 0 x) s

/-- SerialReply1 (R145). Answers SerialRequest1. -/
def execSerialReply1 (fragment : Fragment) (s : State) : Host.Outcome State Fault Refusal :=
  frameMeaning true .serialReply1 (frameRSPS .serialReply1 fragment) s

/-- SerialReply2 (R146). Answers SerialRequest2. -/
def execSerialReply2 (fragment : Fragment) (s : State) : Host.Outcome State Fault Refusal :=
  frameMeaning true .serialReply2 (frameRSPS .serialReply2 fragment) s

/-- WarmupAck (R147). Answers Warmup, and Heartbeat from a warming device. -/
def execWarmupAck (a : Addr) (s : State) : Host.Outcome State Fault Refusal :=
  frameMeaning true .warmupAck (frameRSPA .warmupAck a) s

/-- WarmupCompleteAck (R148). Answers WarmupComplete, and Heartbeat from a warmed device. -/
def execWarmupCompleteAck (a : Addr) (s : State) : Host.Outcome State Fault Refusal :=
  frameMeaning true .warmupCompleteAck (frameRSPA .warmupCompleteAck a) s

/-- HeartbeatRunning (R149). Answers Heartbeat from a running device. -/
def execHeartbeatRunning (a : Addr) (s : State) : Host.Outcome State Fault Refusal :=
  frameMeaning true .heartbeatRunning (frameRSPA .heartbeatRunning a) s

/-- LedBrightnessAck (R150). Answers LedBrightness. -/
def execLedBrightnessAck (a : Addr) (s : State) : Host.Outcome State Fault Refusal :=
  frameMeaning true .ledBrightnessAck (frameRSPA .ledBrightnessAck a) s

/-- LedBrightnessAckStartup (R151). Answers LedBrightnessStartup. -/
def execLedBrightnessAckStartup (a : Addr) (s : State) : Host.Outcome State Fault Refusal :=
  frameMeaning true .ledBrightnessAckStartup (frameRSPA .ledBrightnessAckStartup a) s

/-- ColorStartupAck (R152). Answers ColorStartup. -/
def execColorStartupAck (a : Addr) (s : State) : Host.Outcome State Fault Refusal :=
  frameMeaning true .colorStartupAck (frameRSPA .colorStartupAck a) s

/-- LedOnAck (R153). Answers LedOnConfirm. -/
def execLedOnAck (a : Addr) (s : State) : Host.Outcome State Fault Refusal :=
  frameMeaning true .ledOnAck (frameRSPA .ledOnAck a) s

/-- StartupCompleteAck (R154). Answers StartupComplete. -/
def execStartupCompleteAck (a : Addr) (s : State) : Host.Outcome State Fault Refusal :=
  frameMeaning true .startupCompleteAck (frameRSPA .startupCompleteAck a) s

end Sys2Proof.Machine
end

