-- ==== Sys2Proof/Machine/SettingsCommands.lean ====
section
/-! DEFINITION. The setters and LoadSettings (`45_settings_accounting.md` R242 to R248). -/

namespace Sys2Proof.Machine

/-- SetRGB up to its first broadcast (R245): the rest is `sent .color`. -/
def setRGBBody (r g b : Byte) (s : State) : State :=
  s.guarded fun s =>
    if r = s.settings.red ∧ g = s.settings.green ∧ b = s.settings.blue then s.finish .unchanged
    else
      let s1 :=
        State.persist { s with settings := { s.settings with red := r, green := g, blue := b } }
      if s1.on then s1.enter .color 0 else s1.finish .changed

/-- SetBrightness up to its first exchange (R246). -/
def setBrightnessBody (v : Byte) (s : State) : State :=
  s.guarded fun s =>
    if clampBright v = s.settings.bright then s.finish .unchanged
    else
      let s1 := State.persist { s with settings := { s.settings with bright := clampBright v } }
      if s1.on then s1.brightnessFrom 0 else s1.finish .changed

/-- SetWarnAt (R247). -/
def setWarnAtBody (seconds : Word32) (s : State) : State :=
  if seconds = s.settings.warnAt then s.finish .unchanged
  else
    (State.persist { s with settings := { s.settings with warnAt := seconds } }).finish .changed

/-- SetAutoShutoff (R248). -/
def setAutoShutoffBody (seconds : Word32) (s : State) : State :=
  if clampShutoff seconds.toNat = s.settings.autoShutoff then s.finish .unchanged
  else
    (State.persist
      { s with settings := { s.settings with autoShutoff := clampShutoff seconds.toNat } }).finish
      .changed

/-- LoadSettings (R242): a record shorter than 14 bytes loads the defaults, as a whole. -/
def loadSettingsBody (bytes : List Byte) (s : State) : State :=
  if bytes.length < recLen then State.finish { s with settings := Settings.defaults } .defaults
  else State.finish { s with settings := settingsOfRecord (argBytes bytes) } .loaded

/-- SetRGB, command 0x10 (R245). -/
def execSetRGB (r g b : Byte) (s : State) : Host.Outcome State Fault Refusal :=
  acceptCommand (setRGBBody r g b) s

/-- SetBrightness, command 0x11 (R246). -/
def execSetBrightness (v : Byte) (s : State) : Host.Outcome State Fault Refusal :=
  acceptCommand (setBrightnessBody v) s

/-- SetWarnAt, command 0x12 (R247). -/
def execSetWarnAt (seconds : Word32) (s : State) : Host.Outcome State Fault Refusal :=
  acceptCommand (setWarnAtBody seconds) s

/-- SetAutoShutoff, command 0x13 (R248). -/
def execSetAutoShutoff (seconds : Word32) (s : State) : Host.Outcome State Fault Refusal :=
  acceptCommand (setAutoShutoffBody seconds) s

/-- LoadSettings, command 0x14 (R242). -/
def execLoadSettings (bytes : List Byte) (s : State) : Host.Outcome State Fault Refusal :=
  acceptCommand (loadSettingsBody bytes) s

end Sys2Proof.Machine
end

