-- ==== Sys2Proof/Machine/Dispatch.lean ====
section
/-! DEFINITION. What each instruction does: one arm per constructor of `Instr`, each one direct call of
its meaning. -/

namespace Sys2Proof.Machine

def exec (i : Instr) (s : State) : Host.Outcome State Fault Refusal :=
  match i with
  | .discover => Sys2Proof.Machine.execDiscover s
  | .powerUp => Sys2Proof.Machine.execPowerUp s
  | .powerDown => Sys2Proof.Machine.execPowerDown s
  | .startupAckUnaddressed x => Sys2Proof.Machine.execStartupAckUnaddressed x s
  | .startupAck a x => Sys2Proof.Machine.execStartupAck a x s
  | .serialReply1 fragment => Sys2Proof.Machine.execSerialReply1 fragment s
  | .serialReply2 fragment => Sys2Proof.Machine.execSerialReply2 fragment s
  | .warmupAck a => Sys2Proof.Machine.execWarmupAck a s
  | .warmupCompleteAck a => Sys2Proof.Machine.execWarmupCompleteAck a s
  | .heartbeatRunning a => Sys2Proof.Machine.execHeartbeatRunning a s
  | .ledBrightnessAck a => Sys2Proof.Machine.execLedBrightnessAck a s
  | .ledBrightnessAckStartup a => Sys2Proof.Machine.execLedBrightnessAckStartup a s
  | .colorStartupAck a => Sys2Proof.Machine.execColorStartupAck a s
  | .ledOnAck a => Sys2Proof.Machine.execLedOnAck a s
  | .startupCompleteAck a => Sys2Proof.Machine.execStartupCompleteAck a s
  | .color r g b => Sys2Proof.Machine.execColor r g b s
  | .colorConfirm => Sys2Proof.Machine.execColorConfirm s
  | .setAddress a => Sys2Proof.Machine.execSetAddress a s
  | .heartbeat a => Sys2Proof.Machine.execHeartbeat a s
  | .serialRequest1 a => Sys2Proof.Machine.execSerialRequest1 a s
  | .serialRequest2 a => Sys2Proof.Machine.execSerialRequest2 a s
  | .warmup a => Sys2Proof.Machine.execWarmup a s
  | .warmupComplete a => Sys2Proof.Machine.execWarmupComplete a s
  | .ledOnConfirm a => Sys2Proof.Machine.execLedOnConfirm a s
  | .startupComplete a => Sys2Proof.Machine.execStartupComplete a s
  | .ledBrightness a level => Sys2Proof.Machine.execLedBrightness a level s
  | .ledBrightnessStartup a level => Sys2Proof.Machine.execLedBrightnessStartup a level s
  | .colorStartup a r g b => Sys2Proof.Machine.execColorStartup a r g b s
  | .powerOn => Sys2Proof.Machine.execPowerOn s
  | .powerOff => Sys2Proof.Machine.execPowerOff s
  | .heartbeatPoll => Sys2Proof.Machine.execHeartbeatPoll s
  | .saveRuntime => Sys2Proof.Machine.execSaveRuntime s
  | .setRGB r g b => Sys2Proof.Machine.execSetRGB r g b s
  | .setBrightness v => Sys2Proof.Machine.execSetBrightness v s
  | .setWarnAt seconds => Sys2Proof.Machine.execSetWarnAt seconds s
  | .setAutoShutoff seconds => Sys2Proof.Machine.execSetAutoShutoff seconds s
  | .loadSettings bytes => Sys2Proof.Machine.execLoadSettings bytes s
  | .getBusState => Sys2Proof.Machine.execGetBusState s
  | .getDevice a => Sys2Proof.Machine.execGetDevice a s
  | .getRuntimeHours => Sys2Proof.Machine.execGetRuntimeHours s
  | .getPercentLeft => Sys2Proof.Machine.execGetPercentLeft s
  | .getHeartbeatDue => Sys2Proof.Machine.execGetHeartbeatDue s
  | .rebind => Sys2Proof.Machine.execRebind s

end Sys2Proof.Machine
end

