-- ==== Sys2Proof/Machine/Cycle.lean ====
section
/-! DEFINITION. One clock of RBC (`60_exceptions.md` R271): reset, the received byte, the scheduler's own
step, command acceptance, in that order. -/

namespace Sys2Proof.Machine

/-- DESIGN CHOICE (unsafe, log 9): when the default transmitter's line is idle, T_FRAME_MS after the first
write (R201: "in the model the flush takes exactly T_FRAME_MS from the first write"). -/
def State.lineIdle (s : State) (now : Word32) : Bool := s.params.frame ≤ sub32 now s.firstWrite

/-- The scheduler is at a point it can leave at the current NOW. -/
def State.ready (s : State) : Bool :=
  match s.seq with
  | .idle => false
  | .delaying _ => s.waitOver
  | .line _ _ .transmitStart | .line _ _ (.writing _) => true
  | .line _ _ .flush => s.lineIdle s.now
  | .line _ _ .setup | .line _ _ .hold | .line _ _ .answer | .line _ _ .pause => s.waitOver

/-- DESIGN CHOICE (unsafe for claims about a run past the end of `inputs`, log 2): the input ports in a clock for which the script says nothing:
no reset, no byte, no command, the transmitter ready and its line idle T_FRAME_MS after the first
write; NOW advances by one millisecond in a clock in which the scheduler can only wait, and stays
otherwise (R9, R212). -/
def State.quietClock (s : State) : Clock :=
  let now := if s.ready then s.now else s.now + 1
  { rst := false, now := now, cfgOk := s.cfgOk
    rx := none, txReady := true, txIdle := s.lineIdle now, cmd := none }

/-- The inputs sampled at the start of a clock; `res_valid` lasts one clock (R220). -/
def State.sample (s : State) (c : Clock) (rest : List Clock) : State :=
  { s with now := c.now, cfgOk := c.cfgOk, inputs := rest, resValid := false }

/-- `rst = 1` (R290): every register takes its reset value. The inputs, the parameters and what has
already left on the output ports are not registers and stay, and so does the transmitter's time of its
first write (log 22). -/
def State.resetRegisters (s : State) : State :=
  { State.reset with
    now := s.now, cfgOk := s.cfgOk, inputs := s.inputs, params := s.params
    firstWrite := s.firstWrite
    txLog := s.txLog, resLog := s.resLog, saveLog := s.saveLog, diagLog := s.diagLog }

/-- The received byte (R172, R206): a byte step of the deframer while DIR = 0, ignored while DIR = 1. -/
def State.receiveByte (s : State) (rx : Option Byte) : State × Option Frame :=
  match rx with
  | some b => if s.dir then (s, none) else s.deframe (some b)
  | none => (s, none)

/-- A frame the deframer has emitted inside the wait loop of line `l` (R203): the instruction it
decodes to is run; a frame no row matches is the verdict Unknown (R155). -/
def deliver (l : Line) (a : Addr) (f : Frame) (s : State) : Host.Outcome State Fault Refusal :=
  match decodeFrame f with
  | .ok i => exec i s
  | .error _ => .next (s.returned l a (some (.unknown, f)))

/-- One pass of the wait loop of `Exchange` (R203): a frame from the byte step just taken or from the
poll step taken now; then the time. -/
def waitPass (l : Line) (a : Addr) (emitted : Option Frame) (s : State) :
    Host.Outcome State Fault Refusal :=
  match emitted with
  | some f => deliver l a f s
  | none =>
    let (s1, out) := s.deframe none
    match out with
    | some f => deliver l a f s1
    | none => if s1.waitOver then .next (s1.timedOut l a) else .next s1

/-- The frame in TXBUF goes out (R201): the instruction it decodes to is run. TXBUF always decodes
there in a run; a frame that did not would go out as it stands. -/
def transmitPass (l : Line) (a : Addr) (s : State) : Host.Outcome State Fault Refusal :=
  match decodeFrame s.txbuf with
  | .ok i => exec i s
  | .error _ => .next (s.beginTransmit l a s.txbuf)

/-- A byte is written (R202): if the transmitter takes it, the next byte is put up, or the flush
begins. The transmitter remembers the time of the first write (log 9). -/
def State.writeByte (s : State) (l : Line) (a : Addr) (i : Fin 11) (txReady : Bool) : State :=
  if txReady then
    let s1 := if i = 0 then { s with firstWrite := s.now } else s
    if h : i.val + 1 < 11 then { s1 with seq := .line l a (.writing ⟨i.val + 1, h⟩) }
    else { s1 with seq := .line l a .flush }
  else s

/-- The last line of `Transmit`, `DIR <- 0` (R201), and the start of the wait that follows: the window
of an `Exchange` (R203) or the delay of a `Broadcast` (R205). -/
def State.endTransmit (s : State) (l : Line) (a : Addr) : State :=
  let s1 := { s with dir := false }
  match l.window with
  | some t => { s1.startWait t with seq := .line l a .answer }
  | none => { s1.startWait s.params.txGap with seq := .line l a .pause }

/-- The scheduler's own step at the points that are neither the start of a transmit nor the wait loop
of an exchange (R201, R205, R210). The flush lasts until `tx_idle` is 1 (R201, R81). -/
def State.advance (s : State) (txReady txIdle : Bool) : State :=
  match s.seq with
  | .idle => s
  | .delaying d => if s.waitOver then s.delayed d else s
  | .line l a .setup =>
    if s.waitOver then { s with seq := .line l a (.writing 0) } else s
  | .line l a (.writing i) => s.writeByte l a i txReady
  | .line l a .flush =>
    if txIdle then { s.startWait s.params.dirHold with seq := .line l a .hold } else s
  | .line l a .hold => if s.waitOver then s.endTransmit l a else s
  | .line l _ .pause => if s.waitOver then s.sent l else s
  | .line _ _ .transmitStart | .line _ _ .answer => s

/-- The scheduler's own step (R271, event 3), with the frame the byte step of this clock emitted. -/
def schedulerStep (txReady txIdle : Bool) (emitted : Option Frame) (s : State) :
    Host.Outcome State Fault Refusal :=
  match s.seq with
  | .line l a .answer => waitPass l a emitted s
  | .line l a .transmitStart => transmitPass l a (s.dropStale emitted)
  | .idle | .delaying _ | .line _ _ .setup | .line _ _ (.writing _) | .line _ _ .flush
  | .line _ _ .hold | .line _ _ .pause => .next ((s.dropStale emitted).advance txReady txIdle)

/-- A command that is not one (R234): BadCommand, `Diag(BADCMD, cmd_op)`, nothing else. -/
def State.badCommand (s : State) (op : Byte) : State := (s.raise .badCmd op).finish .badCommand

/-- Command acceptance (R220; R271, event 4): only if BUSY = 0 after the scheduler's own step. A command
that ends at once may end in the same clock as the one before it: both results are in `resLog`, and
RESULT holds the second (DESIGN CHOICE, unsafe, log 28). -/
def acceptStep (cmd : Option Cmd) (s : State) : Host.Outcome State Fault Refusal :=
  match cmd with
  | none => .next s
  | some c =>
    if s.busy then .next s
    else
      match decodeCmd c with
      | .ok i => exec i s
      | .error _ => .next (s.badCommand c.op)

/-- One clock with its inputs already sampled (R271). Two commands may end in it, one in event (3) and one
in event (4): DESIGN CHOICE, unsafe, log 28. The outputs show only what the clock ends with, so a POWER
that event (3) clears and event (4) sets again is never seen as 0: DESIGN CHOICE, unsafe, log 30. -/
def clock (c : Clock) (s : State) : Host.Outcome State Fault Refusal :=
  if c.rst then .next s.resetRegisters
  else
    let (s1, emitted) := s.receiveByte c.rx
    match schedulerStep c.txReady c.txIdle emitted s1 with
    | .next s2 => acceptStep c.cmd s2
    | .fault r => .fault r
    | .refused r => .refused r

/-- The clock that comes next and the script after it. -/
def State.nextClock (s : State) : Clock × List Clock :=
  match s.inputs with
  | c :: rest => (c, rest)
  | [] => (s.quietClock, [])

end Sys2Proof.Machine
end

