-- ==== Sys2Proof/Machine/Fetch.lean ====
section
/-! DEFINITION. Where an instruction is placed so that the next step runs it (log 19). -/

namespace Sys2Proof.Machine

/-- A clock with nothing on the ports: NOW and `cfg_ok` as they are, no reset, no byte, no command. -/
def State.stillClock (s : State) : Clock :=
  { rst := false, now := s.now, cfgOk := s.cfgOk, rx := none, txReady := true
    txIdle := true, cmd := none }

/-- The pseudocode line that transmits a request kind, or `none` for a kind RBC only receives. -/
def sendingLine : MessageKind → Option Line
  | .discover => some .discover
  | .powerUp => some .powerUp
  | .powerDown => some .powerDown
  | .heartbeat => some .heartbeat
  | .ledOnConfirm => some .ledOnConfirm
  | .serialRequest1 => some .serial1
  | .serialRequest2 => some .serial2
  | .warmup => some .warmup
  | .warmupComplete => some .warmupComplete
  | .setAddress => some .setAddress
  | .ledBrightness => some .ledBrightness
  | .ledBrightnessStartup => some .brightnessStartup
  | .color => some .color
  | .colorStartup => some .colorStartup
  | .colorConfirm => some .colorConfirm
  | .startupComplete => some .startupComplete
  | .startupAck | .startupAckUnaddressed | .serialReply1 | .serialReply2 | .warmupAck
  | .warmupCompleteAck | .heartbeatRunning | .ledBrightnessAck | .ledBrightnessAckStartup
  | .colorStartupAck | .ledOnAck | .startupCompleteAck | .unknown => none

/-- The pseudocode line whose exchange expects a response kind (R103); the Heartbeat line for a frame
that no line expects. -/
def waitingLine : MessageKind → Line
  | .startupAck | .startupAckUnaddressed => .discover
  | .serialReply1 => .serial1
  | .serialReply2 => .serial2
  | .warmupAck => .warmup
  | .warmupCompleteAck => .warmupComplete
  | .heartbeatRunning => .heartbeat
  | .ledBrightnessAck => .ledBrightness
  | .ledBrightnessAckStartup => .brightnessStartup
  | .colorStartupAck => .colorStartup
  | .ledOnAck => .ledOnConfirm
  | .startupCompleteAck => .startupComplete
  | .discover | .powerUp | .powerDown | .heartbeat | .ledOnConfirm | .serialRequest1
  | .serialRequest2 | .warmup | .warmupComplete | .setAddress | .ledBrightness
  | .ledBrightnessStartup | .color | .colorStartup | .colorConfirm | .startupComplete
  | .unknown => .heartbeat

/-- `f` is placed where the next step fetches it. A request stands in TXBUF at the start of the
transmit of its line. A response stands whole in RXBUF, its gap over, inside the wait loop of the line
that expects it. The clock that fetches it has nothing else on the ports. -/
def State.placeFrame (s : State) (f : Frame) : State :=
  let s1 := { s with inputs := s.stillClock :: s.inputs, busy := true }
  match sendingLine (classify f) with
  | some l => s1.load l 1 f
  | none =>
    { s1 with
      seq := .line (waitingLine (classify f)) 1 .answer
      dir := false
      deframer := { buf := f, cnt := 11, tLast := s.now - (gapMs + 1) } }

/-- `c` is placed on the command port of the next clock, with the scheduler idle, so that it is
accepted in that clock. -/
def State.placeCommand (s : State) (c : Cmd) : State :=
  { s with
    inputs := { s.stillClock with cmd := some c } :: s.inputs
    busy := false
    seq := .idle }

/-- A packet is placed where the next step fetches it. -/
def State.place (s : State) : Packet → State
  | .frame f => s.placeFrame f
  | .command c => s.placeCommand c

end Sys2Proof.Machine
end

