-- ==== Sys2Proof/Machine/Step.lean ====
section
/-! DEFINITION. The step: one clock (R271) with the next inputs of the script. -/

namespace Sys2Proof.Machine

/-- One clock of RBC. -/
def step (s : State) : Host.Outcome State Fault Refusal :=
  clock s.nextClock.1 (s.sample s.nextClock.1 s.nextClock.2)

/-- `s` with a word of `spec/opcode_table.json` placed where `step` fetches its next instruction. -/
def State.withFetchWord (s : State) (nbits w : Nat) : State := s.place (packetOfTableWord nbits w)

end Sys2Proof.Machine
end

