-- ==== Sys2Proof/Safety.lean ====
section
/-! DEFINITION. The terms the claims use: the invariants of a run, and the vocabulary of the statements
(the next device of a loop, a run of the deframer, what a save leaves). -/

namespace Sys2Proof.Machine

/-! ## Invariants -/

/-- R182 (i) to (iii): at most 11 bytes; a frame that has started begins with the sync byte and holds
no other one. -/
abbrev Deframer.Inv (d : Deframer) : Prop :=
  d.cnt ≤ 11 ∧ (1 ≤ d.cnt → d.buf[0] = sync) ∧
    ∀ i : Fin 11, 1 ≤ i.val → i.val < d.cnt.toNat → d.buf.get i ≠ sync

/-- The legal values of BRIGHT (R43) and AUTO_SHUTOFF (R46). -/
abbrev Settings.Legal (r : Settings) : Prop := r.bright ≤ 254 ∧ r.autoShutoff ≤ 57600

/-- The phases inside `Transmit`, in which DIR is 1 (R26, R201). -/
def Phase.transmitting : Phase → Bool
  | .setup | .writing _ | .flush | .hold => true
  | .transmitStart | .answer | .pause => false

/-- A phase line `l` can be in: only an exchange waits for an answer (R203), only a broadcast pauses
(R205). -/
def Phase.allowed (ph : Phase) (l : Line) : Bool :=
  match ph with
  | .answer => l.window.isSome
  | .pause => l.window.isNone
  | .transmitStart | .setup | .writing _ | .flush | .hold => true

/-- The lines inside a `for each present device` loop (R194). -/
def Line.perDevice : Line → Bool
  | .serial1 | .serial2 | .warmup | .colorStartup | .brightnessStartup | .startupComplete
  | .heartbeat | .warmupComplete | .ledOnConfirm | .ledBrightness => true
  | .powerUp | .discover | .setAddress | .rePowerUp | .powerDown | .color | .colorConfirm => false

/-- The bus states a procedure runs in (R228, R229, R226, R245, R246). -/
def Proc.runsIn (p : Proc) (b : BusState) : Bool :=
  match p with
  | .idle => b ≠ .powered
  | .powerOn | .discovery | .retrieveSerials => b = .powered
  | .warmUpAll => b = .warmingUp
  | .heartbeatPoll | .endWarmUpAll | .powerOff | .setRGB | .setBrightness =>
    b = .warmingUp || b = .repelling

/-- What SEQ says about the registers around it: BUSY is 0 only between commands (R39), DIR is 1 only
inside `Transmit` (R26), POWER is 1 only in a session (R278), the bus is in a state the procedure runs
in, a loop stands at a present slot, an address being assigned is not 0 (R193), Discovery's streak is
below its limit (R222), and TXBUF holds the request of the line. -/
def State.control (s : State) : Bool :=
  s.seq.proc.runsIn s.busState && s.power = (s.busState = .powered || s.on) &&
    match s.seq with
    | .idle => !s.busy && !s.dir
    | .delaying _ => s.busy && !s.dir
    | .line l a ph =>
      s.busy && s.dir = ph.transmitting && ph.allowed l
        && (!l.perDevice || (s.reg.slot a).present)
        && (l ≠ .setAddress || a ≠ 0)
        && (l.proc ≠ .discovery || s.noresp < norespLimit)
        && s.txbuf = l.request a s.settings

/-- The invariant of RBC, kept by every clock: the memory keeps its canonical form, slot 0x00 is never
present (R34), the deframer's invariant (R182), legal settings (R43, R46), and `control`. -/
abbrev State.Inv (s : State) : Prop :=
  Memory.wf s.reg = true ∧ (s.reg.slot 0).present = false ∧ s.deframer.Inv ∧ s.settings.Legal ∧
    s.control = true

/-! ## Vocabulary -/

/-- Slot `n` is the lowest present slot at or after index `i` (R194). -/
abbrev State.IsNext (s : State) (i : Nat) (n : Addr) : Prop :=
  i ≤ n.toNat ∧ (s.reg.slot n).present = true ∧
    ∀ b : Addr, i ≤ b.toNat → b.toNat < n.toNat → (s.reg.slot b).present = false

/-- No slot at or after index `i` is present. -/
abbrev State.NoneFrom (s : State) (i : Nat) : Prop :=
  ∀ b : Addr, i ≤ b.toNat → (s.reg.slot b).present = false

/-- A present slot with a serial fragment missing (R223). -/
def Slot.lacksSerial (r : Slot) : Bool := r.present && (!r.ser1V || !r.ser2V)

/-- The state with request `f` of line `l` for slot `a` in TXBUF, about to be transmitted; nothing else
differs from `s`. -/
def State.requesting (s : State) (l : Line) (a : Addr) (f : Frame) : State :=
  { s with txbuf := f, seq := .line l a .transmitStart }

/-- The state in which a command has just ended with `r`, presented to the host (R220); nothing else
differs from `s`. -/
def State.ended (s : State) (r : Result) : State :=
  { s with
    result := r, resValid := true, resLog := s.resLog ++ [r], seq := .idle, busy := false }

/-- A run of the deframer over timed steps: the deframer after it, the frames emitted, the diagnostics. -/
def Deframer.run (d : Deframer) : List (Word32 × Option Byte) → Deframer × List Frame × List Diag
  | [] => (d, [], [])
  | (now, rx) :: rest =>
    let r := d.step now rx
    let q := r.1.run rest
    (q.1, r.2.1.toList ++ q.2.1, r.2.2 ++ q.2.2)

/-- Consecutive times are at most GAP_MS apart (R173). -/
def gapsClosed : List Word32 → Bool
  | [] | [_] => true
  | t :: u :: rest => decide (sub32 u t ≤ 8) && gapsClosed (u :: rest)

/-- Two registries that differ at most in slot `a`. -/
abbrev sameElsewhere (reg reg' : Registry) (a : Addr) : Prop :=
  ∀ b : Addr, b ≠ a → reg'.slot b = reg.slot b

/-- The frame that the wait loop of an exchange tests in the next clock (R203): from the byte step, or
else from the poll step. -/
def State.arriving (s : State) : Option Frame :=
  let r := (s.sample s.nextClock.1 s.nextClock.2).receiveByte s.nextClock.1.rx
  match r.2 with
  | some f => some f
  | none => (r.1.deframe none).2

/-- The kinds an exchange's line waits for (R103); a line that expects nothing has none. -/
def Line.expects : Line → List MessageKind
  | .discover => [.startupAck, .startupAckUnaddressed]
  | .serial1 => [.serialReply1]
  | .serial2 => [.serialReply2]
  | .warmup => [.warmupAck]
  | .colorStartup => [.colorStartupAck]
  | .brightnessStartup => [.ledBrightnessAckStartup]
  | .startupComplete => [.startupCompleteAck]
  | .warmupComplete => [.warmupCompleteAck]
  | .ledOnConfirm => [.ledOnAck]
  | .heartbeat => [.warmupAck, .warmupCompleteAck, .heartbeatRunning]
  | .ledBrightness => [.ledBrightnessAck]
  | .setAddress | .powerUp | .rePowerUp | .powerDown | .color | .colorConfirm => []

/-- The five commands `ConfigGuard` stands at the start of (R265). -/
def guardedCommand : Instr → Bool
  | .powerOn | .powerOff | .heartbeatPoll | .setRGB _ _ _ | .setBrightness _ => true
  | .discover | .powerUp | .powerDown | .startupAckUnaddressed _ | .startupAck _ _
  | .serialReply1 _ | .serialReply2 _ | .warmupAck _ | .warmupCompleteAck _
  | .heartbeatRunning _ | .ledBrightnessAck _ | .ledBrightnessAckStartup _
  | .colorStartupAck _ | .ledOnAck _ | .startupCompleteAck _ | .color _ _ _ | .colorConfirm
  | .setAddress _ | .heartbeat _ | .serialRequest1 _ | .serialRequest2 _ | .warmup _
  | .warmupComplete _ | .ledOnConfirm _ | .startupComplete _ | .ledBrightness _ _
  | .ledBrightnessStartup _ _ | .colorStartup _ _ _ _ | .saveRuntime | .setWarnAt _
  | .setAutoShutoff _ | .loadSettings _ | .getBusState | .getDevice _ | .getRuntimeHours
  | .getPercentLeft | .getHeartbeatDue | .rebind => false

/-- The index of the first byte that the format selected by `F[1]` and `F[2]` marks `--` (R92, R95), 11
if there is none. -/
def unusedFrom (f : Frame) : Nat :=
  if f[1] = 0x80 then if f[2] = 0x07 ∨ f[2] = 0x11 ∨ f[2] = 0x12 then 11 else 4
  else if f[1] = 0x81 then 3
  else if f[1] = 0x82 then if f[2] = 0x07 then 3 else 4
  else if f[1] = 0x8E then if f[2] = 0x33 then 6 else 3
  else if f[2] = 0x30 ∨ f[2] = 0x31 then 4
  else if f[2] = 0x32 then 6
  else 3

/-- The codes the class of `F[1]` has (R95, R106). -/
def codesOf (a1 : Byte) : List Byte :=
  if a1 ≤ 0x1F then [0x10, 0x11, 0x12, 0x20, 0x21, 0x22, 0x23, 0x30, 0x31, 0x32]
  else if a1 = 0x80 then [0x07, 0x10, 0x11, 0x12, 0x20, 0x21, 0x22, 0x23, 0x30, 0x31, 0x32]
  else if a1 = 0x81 then [0x01, 0x02]
  else if a1 = 0x82 then [0x07, 0x08]
  else if a1 = 0x8E then [0x33, 0x34]
  else []

/-- What GetDevice shows of a present slot: a field whose valid bit is 0 as 0 (R233). -/
def shownRecord (r : Slot) : Slot :=
  { present := true, state := r.state
    ser1V := r.ser1V, ser1 := if r.ser1V then r.ser1 else #v[0, 0, 0, 0, 0, 0, 0, 0]
    ser2V := r.ser2V, ser2 := if r.ser2V then r.ser2 else #v[0, 0, 0, 0, 0, 0, 0, 0]
    warmT0V := r.warmT0V, warmT0 := if r.warmT0V then r.warmT0 else 0 }

end Sys2Proof.Machine
end

