-- ==== Sys2Proof/Certificates/Slice0/Obligations.lean ====
section
/-! DEFINITION. The statements for the provers. Each docstring cites the rules of spec/ it comes from; a
clause that rests on a choice of the model names the log entry. `{ s with … }` after `.next` is the
whole next state: every field not named is unchanged, so those statements carry their own frame. -/

open Sys2Proof Sys2Proof.Machine

/-! ## Encoding -/

/-- Decoding an encoded well-formed instruction gives it back, for all 43 constructors and every operand
value (R92, R95, R97, R99, R111). -/
def Obligations.DecodeEncodeWellFormed : Prop :=
  ∀ i : Instr, i.wellFormed = true → decode (encode i) = .ok i

/-- No bit of a recognised frame is dropped: the instruction a frame decodes to encodes to that very
frame (R98, R99). -/
def Obligations.EncodeDecodeFrame : Prop :=
  ∀ (f : Frame) (i : Instr), decodeFrame f = .ok i → encode i = .frame f

/-- The round trip, the spec's own inference R126 from R121 to R125 and R99: the kind, the address, the
level, the colour, and the serial fragment when every byte of it is printable. A parameter that the kind
does not take is not looked at (log 31). -/
def Obligations.BuildRoundTrip : Prop :=
  ∀ (k : MessageKind) (p : BuildParams) (f : Frame), build k p = some f →
    classify f = k ∧
    addressOf f =
      (match k.format with
      | some .req | some .reql | some .reqc | some .rspa | some .bca => .addr (p.addr.getD 0)
      | some .rspi => if k = .startupAckUnaddressed then .addr 0 else .addr (p.addr.getD 0)
      | some .sys | some .bc | some .bcc | some .rsps | none => .broadcast) ∧
    (k.format = some .reql → p.level = some (levelOfFrame f)) ∧
    (k.format = some .bcc ∨ k.format = some .reqc → p.rgb = some (rgbOf f)) ∧
    (k.format = some .rsps → ∀ v : Fragment, p.serial = some v →
      (∀ i : Fin 8, 32 ≤ v.get i ∧ v.get i ≤ 126) → serialFragment f = v)

/-- When `build` refuses (R122): Unknown, an address above 0x1F, address 0 for SetAddress and
StartupAck, a level above 100, or a missing parameter that the kind needs. A parameter that the kind
does not take is not looked at (log 31). -/
def Obligations.BuildRefusedExactly : Prop :=
  ∀ (k : MessageKind) (p : BuildParams), build k p = none ↔
    k = .unknown ∨
    ((k.format = some .req ∨ k.format = some .reql ∨ k.format = some .reqc ∨
        k.format = some .rspa ∨ k = .setAddress ∨ k = .startupAck) ∧
      (p.addr = none ∨ ∃ a, p.addr = some a ∧
        (0x1F < a ∨ a = 0 ∧ (k = .setAddress ∨ k = .startupAck)))) ∨
    (k.format = some .reql ∧ (p.level = none ∨ ∃ l, p.level = some l ∧ 100 < l)) ∨
    ((k.format = some .bcc ∨ k.format = some .reqc) ∧ p.rgb = none) ∨
    (k.format = some .rsps ∧ p.serial = none)

/-- Exactly the frames that the spec's inference R106 (from R99) lists classify as Unknown: (i) no sync
byte; (ii) an `F[1]` of no class; (iii) a code its class has not; (iv) an address byte in `F[3]` above
0x1F; (v) a non-zero byte that the format marks unused. -/
def Obligations.UnknownFramesExactly : Prop :=
  ∀ f : Frame, classify f = .unknown ↔
    f[0] ≠ 0xAA ∨
    ((0x20 : Byte) ≤ f[1] ∧ f[1] ≤ 0x7F ∨ (0x83 : Byte) ≤ f[1] ∧ f[1] ≤ 0x8D ∨ (0x8F : Byte) ≤ f[1]) ∨
    f[2] ∉ codesOf f[1] ∨
    ((0x20 : Byte) ≤ f[3] ∧ (f[1] = 0x80 ∧ f[2] ≠ 0x11 ∧ f[2] ≠ 0x12 ∨ f[1] = 0x82 ∧ f[2] = 0x08)) ∨
    (∃ j : Fin 11, unusedFrom f ≤ j.val ∧ f.get j ≠ 0)

/-- Two different rows of the kind table match one frame only if they are StartupAckUnaddressed and
StartupAck, on `AA 80 07 00 …`, and on every such frame both do (R102, the spec's inference from
R99). -/
def Obligations.OnlyStartupAckRowsOverlap : Prop :=
  (∀ (f : Frame) (r r' : KindRow), r ∈ kindTable → r' ∈ kindTable → r ≠ r' →
    r.matches f = true → r'.matches f = true →
      (r.kind = .startupAckUnaddressed ∧ r'.kind = .startupAck ∨
        r.kind = .startupAck ∧ r'.kind = .startupAckUnaddressed) ∧
      f[0] = 0xAA ∧ f[1] = 0x80 ∧ f[2] = 0x07 ∧ f[3] = 0x00) ∧
  (∀ f : Frame, f[0] = 0xAA → f[1] = 0x80 → f[2] = 0x07 → f[3] = 0x00 →
    ∀ r ∈ kindTable, r.kind = .startupAckUnaddressed ∨ r.kind = .startupAck → r.matches f = true)

/-- The kind table meets W1 to W5 of R100 (W6 and W7 are in `BuildRoundTrip` and `EncodeDecodeFrame`). -/
def Obligations.KindTableMeetsRequirements : Prop :=
  kindTable.length = 28 ∧
  (∀ r ∈ kindTable, r.bytes.length = 11 ∧ r.bytes.head? = some (.fix 0xAA)) ∧
  (∀ r ∈ kindTable, r.kind = .discover ∨ r.kind = .powerUp ∨ r.kind = .powerDown →
    r.bytes.map BytePattern.mask = List.replicate 11 0xFF) ∧
  (∀ r ∈ kindTable, r.kind = .discover →
    r.bytes.map BytePattern.value = [0xAA, 0x82, 0x07, 0, 0, 0, 0, 0, 0, 0, 0]) ∧
  ((kindTable.map KindRow.kind).idxOf .startupAckUnaddressed
    < (kindTable.map KindRow.kind).idxOf .startupAck) ∧
  (∀ r ∈ kindTable, r.kind = .startupAckUnaddressed →
    r.bytes = [.fix 0xAA, .fix 0x80, .fix 0x07, .fix 0x00] ++ List.replicate 7 .any) ∧
  (∀ r ∈ kindTable, r.kind = .startupAck →
    r.bytes = [.fix 0xAA, .fix 0x80, .fix 0x07, .address] ++ List.replicate 7 .any) ∧
  (∀ r ∈ kindTable,
    (r.kind.format = some .rspa ∨ r.kind.format = some .rspi ∨ r.kind.format = some .rsps →
      r.bytes[1]? = some (.fix 0x80)) ∧
    (r.kind = .color ∨ r.kind = .colorConfirm → r.bytes[1]? = some (.fix 0x8E)) ∧
    (r.kind.format = some .req ∨ r.kind.format = some .reql ∨ r.kind.format = some .reqc →
      r.bytes[1]? = some .address))

/-- A few words of the opcode table, each written from its rule, decode to the instruction they stand
for (R127, R137, R143, R145, R153, R111). -/
def Obligations.TableWordsDecode : Prop :=
  decodeTableWord 88 0xAA82070000000000000000 = some .discover ∧
  decodeTableWord 88 0xAA05302700000000000000 = some (.ledBrightness 5 39) ∧
  decodeTableWord 88 0xAA8007050503F2000A0389 = some (.startupAck 5 #v[5, 3, 0xF2, 0, 0x0A, 3, 0x89]) ∧
  decodeTableWord 88 0xAA80115443323441303031
    = some (.serialReply1 #v[0x54, 0x43, 0x32, 0x34, 0x41, 0x30, 0x30, 0x31]) ∧
  decodeTableWord 88 0xAA80220500000000000000 = some (.ledOnAck 5) ∧
  decodeTableWord 88 0xAB82070000000000000000 = none ∧
  decodeTableWord 8 0x01 = some .powerOn ∧
  decodeTableWord 8 0x24 = some .getHeartbeatDue ∧
  decodeTableWord 8 0x31 = none

/-- The printable filter (R124) and the serial fragment, defined on every frame (R125). -/
def Obligations.SerialFragmentIsFiltered : Prop :=
  (∀ b : Byte, printable b = if 32 ≤ b.toNat ∧ b.toNat ≤ 126 then b else 0x2E) ∧
  (∀ (f : Frame) (i : Nat) (h : i < 8), (serialFragment f)[i] = printable f[i + 3])

/-- A code not in R111, or too few argument bytes, is BadCommand with its diagnostic and nothing else;
any other command decodes to an instruction of its code; argument bytes past those needed are ignored
(R234). -/
def Obligations.BadCommandExactly : Prop :=
  (∀ (c : Cmd) (s : State), s.busy = false →
    (argsNeeded c.op = none ∨ ∃ n, argsNeeded c.op = some n ∧ c.len < n) →
    acceptStep (some c) s =
      .next (State.ended { s with diagLog := s.diagLog ++ [⟨.badCmd, c.op⟩] } .badCommand)) ∧
  (∀ (c : Cmd) (n : BitVec 4), argsNeeded c.op = some n → n ≤ c.len →
    ∃ i, decodeCmd c = .ok i ∧ i.code = some c.op) ∧
  (∀ (c c' : Cmd) (n : BitVec 4), c.op = c'.op → c.op ≠ 0x14 → argsNeeded c.op = some n →
    n ≤ c.len → n ≤ c'.len →
    (∀ (j : Nat) (h : j < 14), j < n.toNat → c.arg[j] = c'.arg[j]) → decodeCmd c = decodeCmd c')

/-! ## The deframer -/

/-- The gap rule (R173): tested at every step before the byte; strictly more than 8 ms; eleven bytes are
emitted, one to ten are dropped with PARTIAL; the count becomes 0. -/
def Obligations.DeframerGapRule : Prop :=
  ∀ (d : Deframer) (now : Word32),
    (d.cnt ≠ 0 → 8 < now - d.tLast → d.cnt = 11 →
      d.step now none = ({ d with cnt := 0 }, some d.buf, [])) ∧
    (d.cnt ≠ 0 → 8 < now - d.tLast → d.cnt ≠ 11 →
      d.step now none = ({ d with cnt := 0 }, none, [⟨.partialFrame, d.cnt.setWidth 8⟩])) ∧
    (d.cnt = 0 ∨ now - d.tLast ≤ 8 → d.step now none = (d, none, [])) ∧
    (∀ b : Byte, d.cnt ≠ 0 → 8 < now - d.tLast →
      d.step now (some b) =
        ((Deframer.step { d with cnt := 0 } now (some b)).1, (d.step now none).2.1,
          (d.step now none).2.2 ++ (Deframer.step { d with cnt := 0 } now (some b)).2.2))

/-- A byte where no boundary is due: start (R174), drop (R175), resynchronise (R176), overflow and look
again (R177), append (R178). -/
def Obligations.DeframerByteRules : Prop :=
  ∀ (d : Deframer) (now : Word32) (b : Byte), d.cnt = 0 ∨ now - d.tLast ≤ 8 →
    (d.cnt = 0 → b = 0xAA →
      d.step now (some b) = ({ buf := d.buf.set 0 b, cnt := 1, tLast := now }, none, [])) ∧
    (d.cnt = 0 → b ≠ 0xAA → d.step now (some b) = (d, none, [⟨.noSync, b⟩])) ∧
    (d.cnt ≠ 0 → d.cnt ≠ 11 → b = 0xAA →
      d.step now (some b) = ({ buf := d.buf.set 0 b, cnt := 1, tLast := now }, none,
        [⟨.resync, d.cnt.setWidth 8⟩])) ∧
    (∀ h : d.cnt.toNat < 11, d.cnt ≠ 0 → b ≠ 0xAA →
      d.step now (some b) =
        ({ buf := d.buf.set d.cnt.toNat b h, cnt := d.cnt + 1, tLast := now }, none, [])) ∧
    (d.cnt = 11 → b = 0xAA →
      d.step now (some b) = ({ buf := d.buf.set 0 b, cnt := 1, tLast := now }, none,
        [⟨.overflow, 11⟩])) ∧
    (d.cnt = 11 → b ≠ 0xAA →
      d.step now (some b) = ({ d with cnt := 0 }, none, [⟨.overflow, 11⟩, ⟨.noSync, b⟩]))

/-- Every deframer step keeps R182 (i) to (iii), and what it emits meets (iv) and comes more than 8 ms
after the last byte (v); R182 is the spec's inference from R171. -/
def Obligations.DeframerKeepsInvariant : Prop :=
  ∀ (d : Deframer) (now : Word32) (rx : Option Byte), d.Inv →
    (d.step now rx).1.Inv ∧
    ∀ f : Frame, (d.step now rx).2.1 = some f →
      f[0] = 0xAA ∧ (∀ i : Fin 11, 1 ≤ i.val → f.get i ≠ 0xAA) ∧ 8 < now - d.tLast

/-- A frame that starts with the sync byte and holds no other one, fed byte by byte with gaps of at most
8 ms and then a step after a gap above 8 ms, is emitted exactly once, unchanged, with no diagnostic
(R171; the document's example in R182). -/
def Obligations.DeframerEmitsFedFrame : Prop :=
  ∀ (d : Deframer) (f : Frame) (ts : Vector Word32 11) (now : Word32), d.cnt = 0 →
    f[0] = 0xAA → (∀ i : Fin 11, 1 ≤ i.val → f.get i ≠ 0xAA) →
    gapsClosed ts.toList = true → (8 : Word32) < now - ts[10] →
    d.run ((ts.toList.zip f.toList).map (fun p => (p.1, some p.2)) ++ [(now, none)]) =
      ({ buf := f, cnt := 0, tLast := ts[10] }, [f], [])

/-- A received byte is ignored while DIR = 1 (R172), and otherwise touches only RXBUF, RXCNT, RXT_LAST
and the diagnostic port (R77, R206). -/
def Obligations.ReceivedByteTouchesDeframerOnly : Prop :=
  ∀ (s : State) (b : Byte),
    (s.dir = true → s.receiveByte (some b) = (s, none)) ∧
    (s.dir = false → s.receiveByte (some b) =
      ({ s with
          deframer := (s.deframer.step s.now (some b)).1
          diagLog := s.diagLog ++ (s.deframer.step s.now (some b)).2.2 },
        (s.deframer.step s.now (some b)).2.1))

/-! ## The registry -/

/-- `Reg.first_free` (R193): the lowest absent slot of 0x01..0x1F, and 0x20 exactly when all 31 are
present; slot 0x00 is not looked at. -/
def Obligations.FirstFreeIsLowest : Prop :=
  ∀ reg : Registry,
    (∀ a : Addr, reg.firstFree = byteOfAddr a ↔
      a ≠ 0 ∧ (reg.slot a).present = false ∧
        ∀ b : Addr, b ≠ 0 → b < a → (reg.slot b).present = true) ∧
    (reg.firstFree = 0x20 ↔ ∀ a : Addr, a ≠ 0 → (reg.slot a).present = true)

/-- `Reg.get_or_create` (R192) and `Reg.find` (R191): a new record is Offline with nothing valid, every
other slot and an existing record stay, a second call changes nothing, and an operand above 0x1F is
refused. For the operand 0x00 R192 is followed, against the rulings D14 and E9 (log 13, DEDUCED). -/
def Obligations.GetOrCreateAndFind : Prop :=
  ∀ (reg : Registry) (a : Addr),
    (reg.getOrCreate (byteOfAddr a)).2 = some a ∧
    ((reg.slot a).present = true → (reg.getOrCreate (byteOfAddr a)).1 = reg) ∧
    ((reg.slot a).present = false →
      (reg.getOrCreate (byteOfAddr a)).1.slot a =
        { reg.slot a with
          present := true, state := .offline, ser1V := false, ser2V := false, warmT0V := false }) ∧
    sameElsewhere reg (reg.getOrCreate (byteOfAddr a)).1 a ∧
    (reg.getOrCreate (byteOfAddr a)).1.getOrCreate (byteOfAddr a)
      = ((reg.getOrCreate (byteOfAddr a)).1, some a) ∧
    reg.find (byteOfAddr a) = (if (reg.slot a).present then some a else none) ∧
    ∀ b : Byte, 0x1F < b → reg.getOrCreate b = (reg, none) ∧ reg.find b = none

/-! ## Frames that go out and frames nobody waits for -/

/-- Where a line is about to transmit, a frame instruction whose operands `build` accepts puts its frame
on the line: TXBUF, DIR, the deframer reset and the setup delay (R201), which as a Delay has the two
wait registers (R210; R201 says that Transmit writes nothing else: log 9). So for the 16 request kinds
discover, powerUp, powerDown, heartbeat, ledOnConfirm, serialRequest1, serialRequest2, warmup,
warmupComplete, setAddress, ledBrightness, ledBrightnessStartup, color, colorStartup, colorConfirm and
startupComplete, and, the codec being symmetric (R104), for the 12 response kinds. A refused build
transmits nothing (R122; that SEQ then stays is the model's choice, log 24). That a frame at this point
is one that goes out is log 3. -/
def Obligations.TransmitPutsFrameOnLine : Prop :=
  ∀ (i : Instr) (f : Frame) (l : Line) (a : Addr) (s : State), encode i = .frame f →
    s.seq = .line l a .transmitStart →
    (i.wellFormed = true → exec i s = .next
      { s with
        txbuf := f
        dir := true
        deframer := { s.deframer with cnt := 0 }
        waitT0 := s.now
        waitTmo := s.params.dirSetup
        txLog := s.txLog ++ [(s.now, f)]
        seq := .line l a .setup }) ∧
    (i.wellFormed = false → exec i s = .next s)

/-- A frame of any of the 28 kinds outside an exchange's wait (and not about to be transmitted) is
dropped with STALE and changes nothing else (R206; which of the three a frame is, log 3). In a step: a
frame `f`, of any kind or Unknown, that the byte step emits while SEQ is in no exchange's wait leaves the
diagnostic STALE with the id of its kind, and the clock goes on as if no byte had come (R206, R262). -/
def Obligations.FrameOutsideWaitIsStale : Prop :=
  (∀ (i : Instr) (k : MessageKind) (s : State), i.kind = some k →
    (∀ l a, s.seq ≠ .line l a .transmitStart ∧ s.seq ≠ .line l a .answer) →
    exec i s = .next { s with diagLog := s.diagLog ++ [⟨.stale, k.id⟩] }) ∧
  (∀ (s s2 : State) (f : Frame), s.nextClock.1.rst = false → (∀ l a, s.seq ≠ .line l a .answer) →
    (s.sample s.nextClock.1 s.nextClock.2).receiveByte s.nextClock.1.rx = (s2, some f) →
    step s = clock { s.nextClock.1 with rx := none }
      { s2 with diagLog := s2.diagLog ++ [⟨.stale, (classify f).id⟩] })

/-- A frame of a kind the waiting line does not expect, request kinds and Unknown included, raises
UNEXPECTED and then does what silence does (R103, R104, R155, R204, R221 step 5, R226). The drain of
SetAddress expects nothing and is stated in `SetAddressDrainIgnored`. What silence does, line by line,
`returned … none`: no retry and no abort (R211, R260, R263), the procedure goes on with its next
exchange, next device or end, and changes no register on the way but those of that next point (R221,
R223 to R226, R246). -/
def Obligations.UnexpectedKindIsFailure : Prop :=
  (∀ (l : Line) (a : Addr) (s : State), s.seq = .line l a .answer → l.expects ≠ [] →
    (∀ (i : Instr) (k : MessageKind), i.kind = some k → k ∉ l.expects →
      exec i s = .next
        (State.returned { s with diagLog := s.diagLog ++ [⟨.unexpected, k.id⟩] } l a none)) ∧
    (∀ f : Frame, classify f = .unknown →
      deliver l a f s = .next
        (State.returned { s with diagLog := s.diagLog ++ [⟨.unexpected, 28⟩] } l a none))) ∧
  (∀ (a : Addr) (s : State),
    (s.noresp < 2 → s.returned .discover a none =
      State.requesting { s with noresp := s.noresp + 1 } .discover 0 (frameSYS .discover)) ∧
    (s.noresp = 2 → s.returned .discover a none = State.retrieveFrom { s with noresp := 3 } 0) ∧
    ((s.reg.slot a).ser2V = false → s.returned .serial1 a none =
      s.requesting .serial2 a (frameREQ .serialRequest2 a)) ∧
    ((s.reg.slot a).ser2V = true → s.returned .serial1 a none = s.retrieveFrom (a.toNat + 1)) ∧
    s.returned .serial2 a none = s.retrieveFrom (a.toNat + 1) ∧
    s.returned .colorStartup a none = s.requesting .brightnessStartup a
      (frameREQL .ledBrightnessStartup a (levelOf s.settings.bright)) ∧
    s.returned .brightnessStartup a none =
      s.requesting .startupComplete a (frameREQ .startupComplete a) ∧
    s.returned .warmupComplete a none =
      s.requesting .ledOnConfirm a (frameREQ .ledOnConfirm a) ∧
    (∀ n : Addr, s.IsNext (a.toNat + 1) n →
      s.returned .warmup a none = s.requesting .warmup n (frameREQ .warmup n) ∧
      s.returned .startupComplete a none = s.requesting .colorStartup n
        (frameREQC .colorStartup n s.settings.red s.settings.green s.settings.blue) ∧
      s.returned .heartbeat a none = s.requesting .heartbeat n (frameREQ .heartbeat n) ∧
      s.returned .ledOnConfirm a none =
        s.requesting .warmupComplete n (frameREQ .warmupComplete n) ∧
      s.returned .ledBrightness a none =
        s.requesting .ledBrightness n
          (frameREQL .ledBrightness n (levelOf s.settings.bright))) ∧
    (s.NoneFrom (a.toNat + 1) →
      s.returned .warmup a none =
        { s with waitT0 := s.now, waitTmo := 4000, seq := .delaying .warmupSettle } ∧
      s.returned .startupComplete a none = State.ended { s with hbLast := s.now } .ok ∧
      s.returned .heartbeat a none = s.aggregate ∧
      s.returned .ledOnConfirm a none =
        State.ended { s with busState := .repelling } .notSettled ∧
      s.returned .ledBrightness a none = s.ended .changed))

/-! ## Transmit and the wait loop -/

/-- The lines that wait. `Transmit` after its start (R201, R202): the setup delay, eleven bytes in index
order each held until `tx_ready`, the flush until `tx_idle` (R81), the hold delay, and DIR back to 0 with
the window of an exchange or the gap of a broadcast opening. The gap ends in the line after the
broadcast (R205), a delay line in the line after it (R210). The windows are those of R209: 100 ms for
Discover and SetAddress, 1000 ms for the other ten exchanges, none for the five broadcasts. A clock
without `rst` takes such a line with the inputs sampled in it, and command acceptance follows (R271).
That `firstWrite` notes the first write is the model's (log 9). -/
def Obligations.TransmitLines : Prop :=
  (Line.window .discover = some 100 ∧ Line.window .setAddress = some 100 ∧
    (∀ l ∈ [Line.serial1, .serial2, .warmup, .colorStartup, .brightnessStartup, .startupComplete,
        .warmupComplete, .ledOnConfirm, .heartbeat, .ledBrightness], l.window = some 1000) ∧
    (∀ l ∈ [Line.powerUp, .rePowerUp, .powerDown, .color, .colorConfirm], l.window = none)) ∧
  (∀ (l : Line) (a : Addr) (s : State) (ready idle : Bool),
    (s.seq = .line l a .setup →
      s.advance ready idle =
        if s.waitOver then { s with seq := .line l a (.writing 0) } else s) ∧
    (∀ i : Fin 11, s.seq = .line l a (.writing i) →
      s.txOut = some (s.txbuf.get i) ∧ s.advance false idle = s ∧
      (i = 0 → s.advance true idle =
        { s with firstWrite := s.now, seq := .line l a (.writing 1) }) ∧
      (∀ j : Fin 11, i ≠ 0 → j.val = i.val + 1 →
        s.advance true idle = { s with seq := .line l a (.writing j) }) ∧
      (i = 10 → s.advance true idle = { s with seq := .line l a .flush })) ∧
    (s.seq = .line l a .flush →
      s.advance ready true =
        { s with waitT0 := s.now, waitTmo := s.params.dirHold, seq := .line l a .hold } ∧
      s.advance ready false = s) ∧
    (s.seq = .line l a .hold → s.waitOver = true →
      (∀ t, l.window = some t → s.advance ready idle =
        { s with dir := false, waitT0 := s.now, waitTmo := t, seq := .line l a .answer }) ∧
      (l.window = none → s.advance ready idle =
        { s with dir := false, waitT0 := s.now, waitTmo := s.params.txGap
                 seq := .line l a .pause })) ∧
    (s.seq = .line l a .hold → s.waitOver = false → s.advance ready idle = s) ∧
    (s.seq = .line l a .pause →
      s.advance ready idle = if s.waitOver then s.sent l else s) ∧
    (∀ d : DelayLine, s.seq = .delaying d →
      s.advance ready idle = if s.waitOver then s.delayed d else s)) ∧
  (∀ (s s2 : State) (e : Option Frame), s.nextClock.1.rst = false →
    (∀ l a, s.seq ≠ .line l a .transmitStart ∧ s.seq ≠ .line l a .answer) →
    (s.sample s.nextClock.1 s.nextClock.2).receiveByte s.nextClock.1.rx = (s2, e) →
    step s = acceptStep s.nextClock.1.cmd
      ((s2.dropStale e).advance s.nextClock.1.txReady s.nextClock.1.txIdle))

/-- From the start of a `Transmit` with nothing on the ports, some number of clocks later DIR is back at
0, the one frame has gone out, NOW has advanced by T_DIR_SETUP_MS + T_FRAME_MS + T_DIR_HOLD_MS and
nothing else has changed but the model's note of the first write (R201, R212). It rests on the model's
default clock (log 2), whose `tx_idle` comes T_FRAME_MS after the first write (log 9). -/
def Obligations.TransmitTakesItsTime : Prop :=
  ∀ (s : State) (l : Line) (a : Addr), s.Inv → s.inputs = [] → s.seq = .line l a .transmitStart →
    ∃ n : Nat, Host.Core.run Sys2Proof.core n s = .next
      { s with
        deframer := { s.deframer with cnt := 0 }
        now := s.now + s.params.dirSetup + s.params.frame + s.params.dirHold
        waitT0 := s.now + s.params.dirSetup + s.params.frame + s.params.dirHold
        waitTmo := l.window.getD s.params.txGap
        firstWrite := s.now + s.params.dirSetup
        seq := .line l a (if l.window.isSome then .answer else .pause)
        resValid := false
        txLog := s.txLog ++ [(s.now, s.txbuf)] }

/-- One pass of the wait loop of `Exchange` (R203): a frame, from the byte step or from the poll, is
returned whatever the time is; then the time decides, with `>=`; a timeout raises TIMEOUT with `F[1]` of
the request, which is not read from TXBUF (R25, R262). -/
def Obligations.ExchangeFrameBeforeTimeout : Prop :=
  ∀ (l : Line) (a : Addr) (s : State),
    (∀ f : Frame, waitPass l a (some f) s = deliver l a f s) ∧
    (∀ f : Frame, s.deframer.step s.now none = ({ s.deframer with cnt := 0 }, some f, []) →
      waitPass l a none s
        = deliver l a f { s with deframer := { s.deframer with cnt := 0 } }) ∧
    (∀ d ds, s.deframer.step s.now none = (d, none, ds) →
      (s.waitTmo ≤ s.now - s.waitT0 → waitPass l a none s = .next
        (State.returned
          { s with
            deframer := d
            diagLog := s.diagLog ++ ds ++ [⟨.timeout, (l.request a s.settings)[1]⟩] }
          l a none)) ∧
      (s.now - s.waitT0 < s.waitTmo → waitPass l a none s = .next
        { s with deframer := d, diagLog := s.diagLog ++ ds }))

/-- A step runs the decoded instruction. The inputs of the clock are sampled, the received byte is taken,
and then: the accepted command, or the frame in TXBUF at the start of its transmit, or the frame the
deframer emits inside a wait, runs by `exec` (R201, R203, R220, R271; the model's form of fetching,
log 3, log 10). A command on the port is looked at after the scheduler's step, and only if BUSY is 0
then (R271 event 4), so one may be accepted in the clock in which an answer ends the one before it
(log 28). -/
def Obligations.StepRunsDecodedInstruction : Prop :=
  (∀ (s s1 s2 : State) (e : Option Frame) (i : Instr),
    s1 = s.sample s.nextClock.1 s.nextClock.2 → (s2, e) = s1.receiveByte s.nextClock.1.rx →
    s.nextClock.1.rst = false →
    (∀ c : Cmd, s.seq = .idle → s.busy = false → s.nextClock.1.cmd = some c →
      decodeCmd c = .ok i → step s = exec i (s2.dropStale e)) ∧
    (∀ l a, s.seq = .line l a .transmitStart → s.busy = true → decodeFrame s.txbuf = .ok i →
      step s = exec i (s2.dropStale e)) ∧
    (∀ l a f, s.seq = .line l a .answer → e = some f → decodeFrame f = .ok i →
      ∃ t, exec i s2 = .next t ∧ step s = acceptStep s.nextClock.1.cmd t) ∧
    (∀ l a f d ds, s.seq = .line l a .answer → e = none →
      s2.deframer.step s2.now none = (d, some f, ds) → decodeFrame f = .ok i →
      ∃ t, exec i { s2 with deframer := d, diagLog := s2.diagLog ++ ds } = .next t ∧
        step s = acceptStep s.nextClock.1.cmd t)) ∧
  (∀ t : State, acceptStep none t = .next t ∧
    ∀ c : Cmd, (t.busy = true → acceptStep (some c) t = .next t) ∧
      ∀ i : Instr, t.busy = false → decodeCmd c = .ok i → acceptStep (some c) t = exec i t)

/-! ## Answers -/

/-- StartupAck answering Discover registers the device at the address it carries, Inactive, resets the
streak, and the next round begins (R221 step 3, R192). -/
def Obligations.StartupAckRegistersDevice : Prop :=
  ∀ (a b : Addr) (x : Payload) (s : State), b ≠ 0 → s.seq = .line .discover a .answer →
    ∃ t, exec (.startupAck b x) s = .next t ∧
      t = { s with
            reg := t.reg, noresp := 0, txbuf := frameSYS .discover
            seq := .line .discover 0 .transmitStart } ∧
      t.reg.slot b =
        (if (s.reg.slot b).present then { s.reg.slot b with state := .inactive }
        else { s.reg.slot b with
               present := true, state := .inactive, ser1V := false, ser2V := false
               warmT0V := false }) ∧
      sameElsewhere s.reg t.reg b

/-- StartupAckUnaddressed answering Discover: SetAddress goes to the lowest free address; with none free
EXHAUSTED is raised and the round counts as a no-response (R221 step 4, R193, R268). -/
def Obligations.UnaddressedGetsLowestFree : Prop :=
  ∀ (a : Addr) (x : Payload) (s : State), s.seq = .line .discover a .answer →
    (∀ b : Addr, b ≠ 0 → (s.reg.slot b).present = false →
      (∀ c : Addr, c ≠ 0 → c < b → (s.reg.slot c).present = true) →
      exec (.startupAckUnaddressed x) s = .next
        (s.requesting .setAddress b (frameBCA .setAddress b))) ∧
    ((∀ c : Addr, c ≠ 0 → (s.reg.slot c).present = true) →
      (s.noresp < 2 → exec (.startupAckUnaddressed x) s = .next
        (State.requesting
          { s with diagLog := s.diagLog ++ [⟨.exhausted, 0x20⟩], noresp := s.noresp + 1 }
          .discover 0 (frameSYS .discover))) ∧
      (s.noresp = 2 → exec (.startupAckUnaddressed x) s = .next
        (State.retrieveFrom
          { s with diagLog := s.diagLog ++ [⟨.exhausted, 0x20⟩], noresp := 3 } 0)))

/-- The drain after SetAddress: whatever arrives, of any kind or Unknown or nothing, the device is
registered at the assigned address and the next round begins (R221 step 4). -/
def Obligations.SetAddressDrainIgnored : Prop :=
  ∀ (a : Addr) (s : State), s.seq = .line .setAddress a .answer →
    ∃ t, t = { s with
               reg := t.reg, noresp := 0, txbuf := frameSYS .discover
               seq := .line .discover 0 .transmitStart } ∧
      t.reg.slot a =
        (if (s.reg.slot a).present then { s.reg.slot a with state := .inactive }
        else { s.reg.slot a with
               present := true, state := .inactive, ser1V := false, ser2V := false
               warmT0V := false }) ∧
      sameElsewhere s.reg t.reg a ∧
      (∀ (i : Instr) (k : MessageKind), i.kind = some k → exec i s = .next t) ∧
      (∀ f : Frame, classify f = .unknown → deliver .setAddress a f s = .next t) ∧
      s.timedOut .setAddress a =
        { t with diagLog := s.diagLog ++ [⟨.timeout, 0x82⟩] }

/-- Discovery's streak (R221 steps 6 and 7, R222): it starts at 0 after the PowerUp broadcast, a silent
round counts one and another round follows, and the third in a row ends Discovery and begins
RetrieveSerials. -/
def Obligations.DiscoveryEndsAfterThree : Prop :=
  ∀ (a : Addr) (s : State),
    s.sent .powerUp =
      State.requesting { s with noresp := 0 } .discover 0 (frameSYS .discover) ∧
    (s.noresp < 2 → s.timedOut .discover a =
      State.requesting
        { s with diagLog := s.diagLog ++ [⟨.timeout, 0x82⟩], noresp := s.noresp + 1 }
        .discover 0 (frameSYS .discover)) ∧
    (s.noresp = 2 → s.timedOut .discover a =
      State.retrieveFrom
        { s with diagLog := s.diagLog ++ [⟨.timeout, 0x82⟩], noresp := 3 } 0)

/-- SerialReply1 and SerialReply2 answering their requests: the filtered fragment goes to the slot that
was polled, with its valid bit, and to no other; the second fragment is asked for if it is missing
(R223, R208). -/
def Obligations.SerialRepliesStored : Prop :=
  ∀ (a : Addr) (v : Fragment) (s : State),
    (s.seq = .line .serial1 a .answer → ∃ t, exec (.serialReply1 v) s = .next t ∧
      t.reg.slot a = { s.reg.slot a with ser1 := v.map printable, ser1V := true } ∧
      sameElsewhere s.reg t.reg a ∧
      ((s.reg.slot a).ser2V = false →
        t = State.requesting { s with reg := t.reg } .serial2 a (frameREQ .serialRequest2 a)) ∧
      ((s.reg.slot a).ser2V = true →
        t = State.retrieveFrom { s with reg := t.reg } (a.toNat + 1))) ∧
    (s.seq = .line .serial2 a .answer → ∃ t reg', exec (.serialReply2 v) s = .next t ∧
      reg'.slot a = { s.reg.slot a with ser2 := v.map printable, ser2V := true } ∧
      sameElsewhere s.reg reg' a ∧
      t = State.retrieveFrom { s with reg := reg' } (a.toNat + 1))

/-- RetrieveSerials from slot index `i` (R223): the lowest present device at or after `i` with a fragment
missing is asked for its first missing one; with none left PowerOn saves the runtime, enters WarmingUp
and begins pass 1, or the settle delay on an empty registry (R228, R224). -/
def Obligations.RetrieveSerialsWalk : Prop :=
  ∀ (s : State) (i : Nat),
    (∀ n : Addr, i ≤ n.toNat → (s.reg.slot n).lacksSerial = true →
      (∀ b : Addr, i ≤ b.toNat → b.toNat < n.toNat → (s.reg.slot b).lacksSerial = false) →
      ((s.reg.slot n).ser1V = false →
        s.retrieveFrom i = s.requesting .serial1 n (frameREQ .serialRequest1 n)) ∧
      ((s.reg.slot n).ser1V = true →
        s.retrieveFrom i = s.requesting .serial2 n (frameREQ .serialRequest2 n))) ∧
    ((∀ b : Addr, i ≤ b.toNat → (s.reg.slot b).lacksSerial = false) → s.busState = .powered →
      (∀ n : Addr, s.IsNext 0 n → s.retrieveFrom i =
        State.requesting { s with saveT := s.now, busState := .warmingUp } .warmup n
          (frameREQ .warmup n)) ∧
      (s.NoneFrom 0 → s.retrieveFrom i =
        { s with saveT := s.now, busState := .warmingUp, waitT0 := s.now, waitTmo := 4000
                 seq := .delaying .warmupSettle }))

/-- WarmupAck answering Warmup, whatever address it names: the polled slot is WarmingUp with the time
recorded; the next present device follows, or the settle delay of 4 s (R224, R208). -/
def Obligations.WarmupAckMarksPolledDevice : Prop :=
  ∀ (a b : Addr) (s : State), s.seq = .line .warmup a .answer →
    ∃ t, exec (.warmupAck b) s = .next t ∧
      t.reg.slot a =
        { s.reg.slot a with state := .warmingUp, warmT0 := s.now, warmT0V := true } ∧
      sameElsewhere s.reg t.reg a ∧
      (∀ n : Addr, s.IsNext (a.toNat + 1) n →
        t = State.requesting { s with reg := t.reg } .warmup n (frameREQ .warmup n)) ∧
      (s.NoneFrom (a.toNat + 1) →
        t = { s with reg := t.reg, waitT0 := s.now, waitTmo := 4000
                     seq := .delaying .warmupSettle })

/-- Pass 2 of WarmUpAll (R224): after the settle delay ColorStartup goes to the first present device; its
three acknowledgements each lead to the next exchange and change no register; after the last device
PowerOn records HB_LAST and ends with Ok (R228). -/
def Obligations.PassTwoExchanges : Prop :=
  ∀ (a b : Addr) (s : State),
    (∀ n : Addr, s.IsNext 0 n → s.delayed .warmupSettle =
      s.requesting .colorStartup n
        (frameREQC .colorStartup n s.settings.red s.settings.green s.settings.blue)) ∧
    (s.NoneFrom 0 → s.delayed .warmupSettle = State.ended { s with hbLast := s.now } .ok) ∧
    (s.seq = .line .colorStartup a .answer → exec (.colorStartupAck b) s = .next
      (s.requesting .brightnessStartup a
        (frameREQL .ledBrightnessStartup a (levelOf s.settings.bright)))) ∧
    (s.seq = .line .brightnessStartup a .answer → exec (.ledBrightnessAckStartup b) s = .next
      (s.requesting .startupComplete a (frameREQ .startupComplete a))) ∧
    (s.seq = .line .startupComplete a .answer →
      (∀ n : Addr, s.IsNext (a.toNat + 1) n → exec (.startupCompleteAck b) s = .next
        (s.requesting .colorStartup n
          (frameREQC .colorStartup n s.settings.red s.settings.green s.settings.blue))) ∧
      (s.NoneFrom (a.toNat + 1) → exec (.startupCompleteAck b) s = .next
        (State.ended { s with hbLast := s.now } .ok)))

/-- The three answers to Heartbeat map to WarmingUp, WarmedUp and Active, in the slot that was polled
whatever address they name; the next present device follows, or the aggregate (R226, R208). -/
def Obligations.HeartbeatAnswersSetState : Prop :=
  ∀ (a b : Addr) (s : State), s.seq = .line .heartbeat a .answer →
    ∀ p ∈ [(Instr.warmupAck b, DevState.warmingUp), (.warmupCompleteAck b, .warmedUp),
        (.heartbeatRunning b, .active)],
      ∃ t reg', exec p.1 s = .next t ∧
        reg'.slot a = { s.reg.slot a with state := p.2 } ∧ sameElsewhere s.reg reg' a ∧
        (∀ n : Addr, s.IsNext (a.toNat + 1) n →
          t = State.requesting { s with reg := reg' } .heartbeat n (frameREQ .heartbeat n)) ∧
        (s.NoneFrom (a.toNat + 1) → t = State.aggregate { s with reg := reg' })

/-- The aggregate of HeartbeatPoll (R226): Settled with no present device WarmingUp or WarmedUp; the
PowerUp broadcast of EndWarmUpAll with none WarmingUp and one WarmedUp; NotSettled otherwise. -/
def Obligations.HeartbeatAggregate : Prop :=
  ∀ s : State,
    ((∀ a, (s.reg.slot a).present = true →
        (s.reg.slot a).state ≠ .warmingUp ∧ (s.reg.slot a).state ≠ .warmedUp) →
      s.aggregate = s.ended .settled) ∧
    ((∀ a, (s.reg.slot a).present = true → (s.reg.slot a).state ≠ .warmingUp) →
      (∃ a, (s.reg.slot a).present = true ∧ (s.reg.slot a).state = .warmedUp) →
      s.aggregate = s.requesting .rePowerUp 0 (frameSYS .powerUp)) ∧
    ((∃ a, (s.reg.slot a).present = true ∧ (s.reg.slot a).state = .warmingUp) →
      s.aggregate = s.ended .notSettled)

/-- EndWarmUpAll (R225): after the PowerUp broadcast each present device gets WarmupComplete, then, on
WarmupCompleteAck (which changes no STATE), LedOnConfirm; LedOnAck makes the polled device Active; past
the last device the bus is Repelling and the poll ends NotSettled (R226). -/
def Obligations.EndWarmUpExchanges : Prop :=
  ∀ (a b : Addr) (s : State),
    (∀ n : Addr, s.IsNext 0 n → s.sent .rePowerUp =
      s.requesting .warmupComplete n (frameREQ .warmupComplete n)) ∧
    (s.NoneFrom 0 → s.sent .rePowerUp =
      State.ended { s with busState := .repelling } .notSettled) ∧
    (s.seq = .line .warmupComplete a .answer → exec (.warmupCompleteAck b) s = .next
      (s.requesting .ledOnConfirm a (frameREQ .ledOnConfirm a))) ∧
    (s.seq = .line .ledOnConfirm a .answer → ∃ t, exec (.ledOnAck b) s = .next t ∧
      t.reg.slot a = { s.reg.slot a with state := .active } ∧ sameElsewhere s.reg t.reg a ∧
      (∀ n : Addr, s.IsNext (a.toNat + 1) n → t =
        State.requesting { s with reg := t.reg } .warmupComplete n (frameREQ .warmupComplete n)) ∧
      (s.NoneFrom (a.toNat + 1) → t =
        State.ended { s with reg := t.reg, busState := .repelling } .notSettled))

/-- What follows the other broadcasts and the power settle delay: PowerUp after the delay (R228);
PowerDown sends every present device Offline, cuts the rail and ends Ok (R229); Color is followed by
ColorConfirm, and that by the result Changed (R245). -/
def Obligations.BroadcastContinuations : Prop :=
  ∀ s : State,
    s.delayed .powerSettle = s.requesting .powerUp 0 (frameSYS .powerUp) ∧
    (∃ t, s.sent .powerDown = t ∧
      t = State.ended { s with reg := t.reg, power := false, busState := .offline } .ok ∧
      ∀ a, t.reg.slot a =
        if (s.reg.slot a).present then { s.reg.slot a with state := .offline }
        else s.reg.slot a) ∧
    s.sent .color = s.requesting .colorConfirm 0 (frameSYS .colorConfirm) ∧
    s.sent .colorConfirm = s.ended .changed

/-! ## Host commands -/

/-- While BUSY = 1 none of the fifteen commands is accepted: nothing changes (R39, R220). -/
def Obligations.BusyCommandIgnored : Prop :=
  ∀ (i : Instr) (c : Byte) (s : State), i.code = some c → s.busy = true → exec i s = .next s

/-- PowerOn (R228): from Offline the rail comes up, the bus is Powered and the settle delay begins; in
Error it is Refused; in any other state AlreadyOn; the last two change nothing but the result. -/
def Obligations.PowerOnByBusState : Prop :=
  ∀ s : State, s.busy = false → s.cfgOk = true →
    (s.busState = .offline → exec .powerOn s = .next
      { s with
        busy := true, power := true, busState := .powered, waitT0 := s.now
        waitTmo := s.params.powerSettle, seq := .delaying .powerSettle }) ∧
    (s.busState = .error → exec .powerOn s = .next (s.ended .refused)) ∧
    (s.busState ≠ .offline → s.busState ≠ .error → exec .powerOn s = .next (s.ended .alreadyOn))

/-- PowerOff (R229): in Offline and in Error only the rail is forced off; otherwise the runtime is saved
first and PowerDown is broadcast. -/
def Obligations.PowerOffByBusState : Prop :=
  ∀ s : State, s.busy = false → s.cfgOk = true →
    (s.busState = .offline ∨ s.busState = .error →
      exec .powerOff s = .next (State.ended { s with power := false } .ok)) ∧
    (s.busState ≠ .offline → s.busState ≠ .error → exec .powerOff s = .next
      (State.requesting { s.saveRuntime with busy := true } .powerDown 0 (frameSYS .powerDown)))

/-- HeartbeatPoll up to its first exchange (R226, R227 i): NotRunning when the bus is not On; otherwise
HB_LAST moves and the lowest present device gets a Heartbeat; with none the result is Settled at once. -/
def Obligations.HeartbeatPollStarts : Prop :=
  ∀ s : State, s.busy = false → s.cfgOk = true →
    (s.busState ≠ .warmingUp → s.busState ≠ .repelling →
      exec .heartbeatPoll s = .next (s.ended .notRunning)) ∧
    (s.busState = .warmingUp ∨ s.busState = .repelling →
      (∀ n : Addr, s.IsNext 0 n → exec .heartbeatPoll s = .next
        (State.requesting { s with busy := true, hbLast := s.now } .heartbeat n
          (frameREQ .heartbeat n))) ∧
      (s.NoneFrom 0 → exec .heartbeatPoll s = .next
        (State.ended { s with hbLast := s.now } .settled)))

/-- SaveRuntime (R250): ACTIVE_S grows by the whole seconds since the save point, saturating, only while
the bus is On; the save point moves to NOW; a record is emitted exactly when ACTIVE_S changed (as R250
says; D30 reads otherwise: log 15, DEDUCED). -/
def Obligations.SaveRuntimeAccrues : Prop :=
  ∀ s : State, s.busy = false → ∃ t, exec .saveRuntime s = .next t ∧
    t = State.ended { s with
          settings := { s.settings with activeS := t.settings.activeS }
          saveT := s.now
          saveLog := if t.settings.activeS = s.settings.activeS then s.saveLog
            else s.saveLog ++ [recordOf t.settings] } .ok ∧
    t.settings.activeS.toNat =
      if s.busState = .warmingUp ∨ s.busState = .repelling then
        min (s.settings.activeS.toNat + (s.now - s.saveT).toNat / 1000) (2 ^ 32 - 1)
      else s.settings.activeS.toNat

/-- SetRGB (R245, R255): the colour held is Unchanged and writes nothing; another colour is written and
recorded, and broadcast only while the bus is On. -/
def Obligations.SetRGBWritesAndBroadcasts : Prop :=
  ∀ (r g b : Byte) (s s' : State), s.busy = false → s.cfgOk = true →
    s' = { s with
           settings := { s.settings with red := r, green := g, blue := b }
           saveLog := s.saveLog
             ++ [recordOf { s.settings with red := r, green := g, blue := b }] } →
    ((r, g, b) = (s.settings.red, s.settings.green, s.settings.blue) →
      exec (.setRGB r g b) s = .next (s.ended .unchanged)) ∧
    ((r, g, b) ≠ (s.settings.red, s.settings.green, s.settings.blue) →
      (s.busState ≠ .warmingUp → s.busState ≠ .repelling →
        exec (.setRGB r g b) s = .next (s'.ended .changed)) ∧
      (s.busState = .warmingUp ∨ s.busState = .repelling →
        exec (.setRGB r g b) s = .next
          (State.requesting { s' with busy := true } .color 0 (frameBCC .color r g b))))

/-- SetBrightness (R246, R255) up to its first exchange: 255 counts as 254; the value held is Unchanged;
another is written and recorded, and while the bus is On the lowest present device gets its level; with
no device, or with the bus not On, the result is Changed at once. -/
def Obligations.SetBrightnessVisitsDevices : Prop :=
  ∀ (v : Byte) (s s' : State), s.busy = false → s.cfgOk = true →
    s' = { s with
           settings := { s.settings with bright := if v = 255 then 254 else v }
           saveLog := s.saveLog
             ++ [recordOf { s.settings with bright := if v = 255 then 254 else v }] } →
    ((if v = 255 then 254 else v) = s.settings.bright →
      exec (.setBrightness v) s = .next (s.ended .unchanged)) ∧
    ((if v = 255 then 254 else v) ≠ s.settings.bright →
      (s.busState ≠ .warmingUp → s.busState ≠ .repelling →
        exec (.setBrightness v) s = .next (s'.ended .changed)) ∧
      (s.busState = .warmingUp ∨ s.busState = .repelling →
        (∀ n : Addr, s.IsNext 0 n → exec (.setBrightness v) s = .next
          (State.requesting { s' with busy := true } .ledBrightness n
            (frameREQL .ledBrightness n (levelOf s'.settings.bright)))) ∧
        (s.NoneFrom 0 → exec (.setBrightness v) s = .next (s'.ended .changed))))

/-- LedBrightnessAck answering LedBrightness (R246): the next present device, or the result Changed. -/
def Obligations.LedBrightnessAckGoesOn : Prop :=
  ∀ (a b : Addr) (s : State), s.seq = .line .ledBrightness a .answer →
    (∀ n : Addr, s.IsNext (a.toNat + 1) n → exec (.ledBrightnessAck b) s = .next
      (s.requesting .ledBrightness n (frameREQL .ledBrightness n (levelOf s.settings.bright)))) ∧
    (s.NoneFrom (a.toNat + 1) → exec (.ledBrightnessAck b) s = .next (s.ended .changed))

/-- SetWarnAt (R247) and SetAutoShutoff (R248): Unchanged if the value held, after normalising, is the
operand; otherwise written, recorded and Changed; no frame, and not guarded by `cfg_ok`. -/
def Obligations.SetThresholds : Prop :=
  ∀ (v : Word32) (s : State), s.busy = false →
    (v = s.settings.warnAt → exec (.setWarnAt v) s = .next (s.ended .unchanged)) ∧
    (v ≠ s.settings.warnAt → exec (.setWarnAt v) s = .next
      (State.ended { s with
        settings := { s.settings with warnAt := v }
        saveLog := s.saveLog ++ [recordOf { s.settings with warnAt := v }] } .changed)) ∧
    (∀ n : BitVec 16, n.toNat = (if 57600 < v.toNat then 18000 else v.toNat) →
      (n = s.settings.autoShutoff → exec (.setAutoShutoff v) s = .next (s.ended .unchanged)) ∧
      (n ≠ s.settings.autoShutoff → exec (.setAutoShutoff v) s = .next
        (State.ended { s with
          settings := { s.settings with autoShutoff := n }
          saveLog := s.saveLog ++ [recordOf { s.settings with autoShutoff := n }] } .changed)))

/-- LoadSettings (R242): fewer than 14 bytes load the compiled-in defaults as a whole; 14 bytes load the
seven registers, little-endian, brightness and auto-shutoff normalised; no record, no frame, and SAVE_T
stays. -/
def Obligations.LoadSettingsReplacesAll : Prop :=
  ∀ (bytes : List Byte) (s : State), s.busy = false →
    (bytes.length < 14 → exec (.loadSettings bytes) s = .next
      (State.ended { s with settings :=
        { red := 0x03, green := 0xD5, blue := 0xFF, bright := 100, activeS := 0
          warnAt := 349200, autoShutoff := 18000 } } .defaults)) ∧
    (14 ≤ bytes.length → ∃ r : Settings, exec (.loadSettings bytes) s = .next
        (State.ended { s with settings := r } .loaded) ∧
      r.red = bytes.getD 0 0 ∧ r.green = bytes.getD 1 0 ∧ r.blue = bytes.getD 2 0 ∧
      r.bright.toNat = min (bytes.getD 3 0).toNat 254 ∧
      r.activeS.toNat = (bytes.getD 4 0).toNat + 2 ^ 8 * (bytes.getD 5 0).toNat
        + 2 ^ 16 * (bytes.getD 6 0).toNat + 2 ^ 24 * (bytes.getD 7 0).toNat ∧
      r.warnAt.toNat = (bytes.getD 8 0).toNat + 2 ^ 8 * (bytes.getD 9 0).toNat
        + 2 ^ 16 * (bytes.getD 10 0).toNat + 2 ^ 24 * (bytes.getD 11 0).toNat ∧
      r.autoShutoff.toNat =
        (if 57600 < (bytes.getD 12 0).toNat + 2 ^ 8 * (bytes.getD 13 0).toNat then 18000
        else (bytes.getD 12 0).toNat + 2 ^ 8 * (bytes.getD 13 0).toNat))

/-- GetBusState and GetDevice (R233), and Rebind (R231): the code of the bus state; the record of a
present slot with its invalid fields as 0, all zero for an absent slot or an address above 0x1F; the
deframer reset. Nothing else changes. The numeric codes: bus states (R35), device states (R30), result
tags (R41), diagnostics (R262) and kind ids (R96). -/
def Obligations.InspectionAndRebind : Prop :=
  (∀ s : State, s.busy = false →
    (∀ p ∈ [(BusState.offline, (0 : Word32)), (.powered, 1), (.warmingUp, 2), (.repelling, 3),
        (.error, 4)],
      s.busState = p.1 → exec .getBusState s = .next (s.ended (.value (.number p.2)))) ∧
    (∀ a : Addr, (s.reg.slot a).present = true → exec (.getDevice (byteOfAddr a)) s = .next
      (s.ended (.value (.device (shownRecord (s.reg.slot a)))))) ∧
    (∀ b : Byte, 0x1F < b ∨ (s.reg.slot (addrOfByte b)).present = false →
      exec (.getDevice b) s = .next (s.ended (.value (.device
        { present := false, state := .offline, ser1V := false
          ser1 := #v[0, 0, 0, 0, 0, 0, 0, 0], ser2V := false
          ser2 := #v[0, 0, 0, 0, 0, 0, 0, 0], warmT0V := false, warmT0 := 0 })))) ∧
    exec .rebind s = .next
      (State.ended { s with deframer := { s.deframer with cnt := 0 } } .ok)) ∧
  [BusState.offline, .powered, .warmingUp, .repelling, .error].map BusState.code
    = [0, 1, 2, 3, 4] ∧
  [DevState.offline, .inactive, .warmingUp, .warmedUp, .active].map DevState.code
    = [0, 1, 2, 3, 4] ∧
  [Result.ok, .unchanged, .changed, .alreadyOn, .refused, .configError, .notRunning, .settled,
    .notSettled, .loaded, .defaults].map Result.tag = [0, 1, 2, 3, 4, 5, 6, 7, 8, 9, 10] ∧
  (∀ v : Value, (Result.value v).tag = 11) ∧ Result.badCommand.tag = 12 ∧
  [DiagCode.timeout, .unexpected, .partialFrame, .resync, .overflow, .noSync, .exhausted, .config,
    .stale, .badCmd].map DiagCode.number = [1, 2, 3, 4, 5, 6, 7, 8, 9, 10] ∧
  [MessageKind.discover, .powerUp, .powerDown, .heartbeat, .ledOnConfirm, .serialRequest1,
    .serialRequest2, .warmup, .warmupComplete, .setAddress, .ledBrightness, .ledBrightnessStartup,
    .color, .colorStartup, .colorConfirm, .startupComplete, .startupAck, .startupAckUnaddressed,
    .serialReply1, .serialReply2, .warmupAck, .warmupCompleteAck, .heartbeatRunning,
    .ledBrightnessAck, .ledBrightnessAckStartup, .colorStartupAck, .ledOnAck, .startupCompleteAck,
    .unknown].map MessageKind.id
    = [0, 1, 2, 3, 4, 5, 6, 7, 8, 9, 10, 11, 12, 13, 14, 15, 16, 17, 18, 19, 20, 21, 22, 23, 24, 25,
      26, 27, 28]

/-- The accounting queries: GetRuntimeHours (R252) adds the in-flight session while On, unsaturated;
GetPercentLeft (R251) uses the stored counter alone, and is 100 with the threshold 0 (as R251 says; D32
reads otherwise: log 14, DEDUCED); GetHeartbeatDue (R232). Nothing else changes. -/
def Obligations.AccountingQueries : Prop :=
  ∀ s : State, s.busy = false →
    (∃ h : Word32, exec .getRuntimeHours s = .next (s.ended (.value (.number h))) ∧
      h.toNat = (s.settings.activeS.toNat +
        (if s.busState = .warmingUp ∨ s.busState = .repelling then (s.now - s.saveT).toNat / 1000
        else 0)) / 3600) ∧
    (∃ p : Word32, exec .getPercentLeft s = .next (s.ended (.value (.number p))) ∧
      p.toNat =
        (if s.settings.warnAt = 0 then 100
        else if s.settings.warnAt ≤ s.settings.activeS then 0
        else 100 * (s.settings.warnAt.toNat - s.settings.activeS.toNat)
          / s.settings.warnAt.toNat)) ∧
    exec .getHeartbeatDue s = .next (s.ended (.value (.number
      (if (s.busState = .warmingUp ∨ s.busState = .repelling) ∧ 15000 ≤ s.now - s.hbLast then 1
      else 0))))

/-- ConfigGuard with `cfg_ok` = 0 (R265, R266, R267): the five guarded commands return ConfigError and do
nothing of their own; outside Error they first take the Error trap, which raises CONFIG with the old bus
state, saves the runtime, cuts POWER and DIR, and sends every present device Offline. -/
def Obligations.ConfigErrorTrap : Prop :=
  ∀ (i : Instr) (s : State), guardedCommand i = true → s.busy = false → s.cfgOk = false →
    (s.busState = .error → exec i s = .next (s.ended .configError)) ∧
    (s.busState ≠ .error → ∃ t, exec i s = .next t ∧
      t = State.ended { s.saveRuntime with
            diagLog := s.diagLog ++ [⟨.config, BitVec.ofNat 8 s.busState.code⟩]
            power := false, dir := false, reg := t.reg, busState := .error } .configError ∧
      ∀ a, t.reg.slot a =
        if (s.reg.slot a).present then { s.reg.slot a with state := .offline }
        else s.reg.slot a)

/-! ## Arithmetic -/

/-- Percent left (R251) is at most 100, does not grow as active seconds accrue, is 0 at and past the warn
threshold, and is 100 when the threshold is 0 (as R251 says; D32 reads otherwise: log 14, DEDUCED). -/
def Obligations.PercentLeftMonotone : Prop :=
  ∀ active active' warnAt : Word32,
    percentLeft active warnAt ≤ 100 ∧
    (active ≤ active' → percentLeft active' warnAt ≤ percentLeft active warnAt) ∧
    (warnAt ≠ 0 → warnAt ≤ active → percentLeft active warnAt = 0) ∧
    percentLeft active 0 = 100

/-- The brightness scale (R244): rounded to nearest, monotone, at most 100, reaching 100. -/
def Obligations.LevelOfRounds : Prop :=
  (∀ b : Byte, b ≤ 254 →
    (levelOf b).toNat = (100 * b.toNat + 127) / 254 ∧ levelOf b ≤ 100 ∧
    2 * (100 * b.toNat) < 254 * (2 * (levelOf b).toNat + 1) ∧
    254 * (2 * (levelOf b).toNat) < 2 * (100 * b.toNat) + 254) ∧
  (∀ b c : Byte, b ≤ c → c ≤ 254 → levelOf b ≤ levelOf c) ∧ levelOf 0 = 0 ∧ levelOf 254 = 100

/-- The persistence record (R240) holds the seven registers in its fourteen bytes, little-endian, and a
saved record always loads back to the same registers (R243). -/
def Obligations.RecordRoundTrip : Prop :=
  ∀ r : Settings,
    (recordOf r)[0] = r.red ∧ (recordOf r)[1] = r.green ∧ (recordOf r)[2] = r.blue ∧
    (recordOf r)[3] = r.bright ∧
    (∀ (j : Nat) (h : j < 4),
      (recordOf r)[4 + j].toNat = r.activeS.toNat / 256 ^ j % 256 ∧
      (recordOf r)[8 + j].toNat = r.warnAt.toNat / 256 ^ j % 256) ∧
    (recordOf r)[12].toNat = r.autoShutoff.toNat % 256 ∧
    (recordOf r)[13].toNat = r.autoShutoff.toNat / 256 ∧
    (r.Legal → settingsOfRecord (recordOf r) = r)

/-! ## The whole machine -/

/-- Every clock keeps the invariant: the canonical memory with slot 0x00 absent (R34), the deframer's
invariant (R182), legal settings (R43, R46), and what SEQ says about BUSY, DIR, POWER, BUS_STATE, TXBUF,
the polled slot and the streak (R26, R36, R39, R230, R278). R34, R182 and R230 are the spec's own
inferences; the canonical form is the model's (log 6, log 21). -/
def Obligations.StepKeepsInvariant : Prop :=
  ∀ s t : State, s.Inv → step s = .next t → t.Inv

/-- The invariant holds after reset (the values R290 leaves open are those of log 5 to log 8). -/
def Obligations.InvariantAtReset : Prop := State.reset.Inv

/-- A clock with `rst` = 1 overrides everything else in it and leaves every register, and every output,
at the value R290 gives (R271); `State.reset` has the same values. A register R290 leaves unspecified is
not in this statement. That the lists of what has left on the ports stay as they were is the model's
choice (log 16, log 22). -/
def Obligations.ResetLeavesR290 : Prop :=
  ∀ s : State, s.nextClock.1.rst = true → ∃ t, step s = .next t ∧
    t.txLog = s.txLog ∧ t.resLog = s.resLog ∧ t.saveLog = s.saveLog ∧ t.diagLog = s.diagLog ∧
    ∀ u ∈ [t, State.reset],
      u.deframer.cnt = 0 ∧ u.deframer.tLast = 0 ∧ u.dir = false ∧ u.power = false ∧
      (∀ a, (u.reg.slot a).present = false ∧ (u.reg.slot a).state = .offline ∧
        (u.reg.slot a).ser1V = false ∧ (u.reg.slot a).ser2V = false ∧
        (u.reg.slot a).warmT0V = false) ∧
      u.busState = .offline ∧ u.noresp = 0 ∧ u.hbLast = 0 ∧ u.busy = false ∧ u.seq = .idle ∧
      u.result = .ok ∧ u.resValid = false ∧
      u.settings =
        { red := 0x03, green := 0xD5, blue := 0xFF, bright := 100, activeS := 0
          warnAt := 349200, autoShutoff := 18000 } ∧
      u.saveT = 0 ∧ u.cmdReady = true ∧ u.txOut = none ∧ u.hbDue = false

/-- Every step of every state answers a next state: that RBC never stops is the model's reading of R105,
R180, R236 and R260 (log 20, DEDUCED). What has left on the output ports, every result among it (R51,
R79), is never taken back, not even by a reset clock (log 16, log 22, DESIGN CHOICE). -/
def Obligations.StepNeverStops : Prop :=
  ∀ s : State, ∃ t, step s = .next t ∧
    s.txLog <+: t.txLog ∧ s.resLog <+: t.resLog ∧ s.saveLog <+: t.saveLog ∧ s.diagLog <+: t.diagLog

/-- Nothing but reset clears PRESENT, SER1_V or SER2_V (R195, R29). -/
def Obligations.RecordsPersist : Prop :=
  ∀ (s t : State) (a : Addr), Memory.wf s.reg = true → s.nextClock.1.rst = false →
    step s = .next t →
    ((s.reg.slot a).present = true → (t.reg.slot a).present = true) ∧
    ((s.reg.slot a).ser1V = true → (t.reg.slot a).ser1V = true) ∧
    ((s.reg.slot a).ser2V = true → (t.reg.slot a).ser2V = true)

/-- The bus lifecycle, every transition of R230 (the spec's inference from R225, R228, R229, R266):
those of the scheduler's own step, and those of command acceptance. -/
def Obligations.BusLifecycle : Prop :=
  ∀ s t : State, s.Inv →
    (∀ (ready idle : Bool) (e : Option Frame), schedulerStep ready idle e s = .next t →
      t.busState = s.busState ∨
      s.busState = .powered ∧ t.busState = .warmingUp ∨
      s.busState = .warmingUp ∧ t.busState = .repelling ∨
      (s.busState = .warmingUp ∨ s.busState = .repelling) ∧ t.busState = .offline) ∧
    (∀ cmd : Option Cmd, acceptStep cmd s = .next t →
      t.busState = s.busState ∨
      s.busState = .offline ∧ t.busState = .powered ∧ s.cfgOk = true ∨
      s.busState ≠ .error ∧ t.busState = .error ∧ s.cfgOk = false)

/-- Only reset leaves Error (R267): from Error every clock without `rst` stays in Error, with the rail
off and no frame begun. -/
def Obligations.ErrorLeftOnlyByReset : Prop :=
  ∀ s t : State, s.Inv → s.busState = .error → s.nextClock.1.rst = false → step s = .next t →
    t.busState = .error ∧ t.power = false ∧ t.dir = false ∧ t.txLog = s.txLog

/-- STATE of a present device moves only as the table of R197 says: by the answer named there in the
exchange named there, by the PowerDown broadcast, or by a configuration error; a timeout, an Unknown
frame, a delay or a broadcast other than PowerDown moves none (R263), the drain of SetAddress apart. The
last clause says it of one clock of `step`: the frame `f` that answers, the end of PowerDown, or the
guarded command that the clock accepts. -/
def Obligations.DeviceStateMovesOnlyByTable : Prop :=
  (∀ (i : Instr) (s t : State) (a : Addr), exec i s = .next t →
    (s.reg.slot a).present = true → (t.reg.slot a).state ≠ (s.reg.slot a).state →
    (∃ b x, s.seq = .line .discover b .answer ∧ i = .startupAck a x ∧
      (t.reg.slot a).state = .inactive) ∨
    (s.seq = .line .setAddress a .answer ∧ (t.reg.slot a).state = .inactive) ∨
    (s.seq = .line .warmup a .answer ∧ i.kind = some .warmupAck ∧
      (t.reg.slot a).state = .warmingUp) ∨
    (s.seq = .line .heartbeat a .answer ∧
      (i.kind = some .warmupAck ∧ (t.reg.slot a).state = .warmingUp ∨
        i.kind = some .warmupCompleteAck ∧ (t.reg.slot a).state = .warmedUp ∨
        i.kind = some .heartbeatRunning ∧ (t.reg.slot a).state = .active)) ∨
    (s.seq = .line .ledOnConfirm a .answer ∧ i.kind = some .ledOnAck ∧
      (t.reg.slot a).state = .active) ∨
    (guardedCommand i = true ∧ s.cfgOk = false ∧ (t.reg.slot a).state = .offline)) ∧
  (∀ (s : State) (l : Line) (a : Addr), l ≠ .setAddress → (s.timedOut l a).reg = s.reg) ∧
  (∀ (s : State) (l : Line), l ≠ .powerDown → (s.sent l).reg = s.reg) ∧
  (∀ (s : State) (d : DelayLine), (s.delayed d).reg = s.reg) ∧
  (∀ (s : State) (l : Line) (a : Addr) (f : Frame), l ≠ .setAddress → classify f = .unknown →
    ∃ t, deliver l a f s = .next t ∧ t.reg = s.reg) ∧
  (∀ (s t : State) (a : Addr), s.nextClock.1.rst = false → step s = .next t →
    (s.reg.slot a).present = true → (t.reg.slot a).state ≠ (s.reg.slot a).state →
    (∃ b f, s.seq = .line .discover b .answer ∧ s.arriving = some f ∧ classify f = .startupAck ∧
      f[3] = byteOfAddr a ∧ (t.reg.slot a).state = .inactive) ∨
    (s.seq = .line .setAddress a .answer ∧ (t.reg.slot a).state = .inactive) ∨
    (∃ l f, s.seq = .line l a .answer ∧ s.arriving = some f ∧
      (l = .warmup ∧ classify f = .warmupAck ∧ (t.reg.slot a).state = .warmingUp ∨
        l = .heartbeat ∧ classify f = .warmupAck ∧ (t.reg.slot a).state = .warmingUp ∨
        l = .heartbeat ∧ classify f = .warmupCompleteAck ∧ (t.reg.slot a).state = .warmedUp ∨
        l = .heartbeat ∧ classify f = .heartbeatRunning ∧ (t.reg.slot a).state = .active ∨
        l = .ledOnConfirm ∧ classify f = .ledOnAck ∧ (t.reg.slot a).state = .active)) ∨
    (∃ b, s.seq = .line .powerDown b .pause ∧ (t.reg.slot a).state = .offline) ∨
    (∃ c i, s.nextClock.1.cmd = some c ∧ decodeCmd c = .ok i ∧ guardedCommand i = true ∧
      s.nextClock.1.cfgOk = false ∧ (t.reg.slot a).state = .offline))
end

