-- ==== Sys2Proof/Laws/Codec.lean ====
section
/-! SUPPORT. The codec: how a byte meets a pattern byte, and which row a built frame matches first. -/

namespace Sys2Proof

@[simp] theorem byteOfAddr_and (a : Addr) : byteOfAddr a &&& 0xE0#8 = 0#8 := by
  revert a; decide

@[simp] theorem addrOfByte_byteOfAddr' (a : Addr) : addrOfByte (byteOfAddr a) = a := by
  revert a; decide

theorem byteOfAddr_addrOfByte {b : Byte} (h : b &&& 0xE0#8 = 0#8) : byteOfAddr (addrOfByte b) = b := by
  revert b; decide

theorem byteOfAddr_eq_zero {a : Addr} : byteOfAddr a = 0#8 ↔ a = 0 := by
  revert a; decide

/-- The low value of an address byte: it equals no category byte. -/
theorem byteOfAddr_lt (a : Addr) : byteOfAddr a ≤ 0x1F := by
  revert a; decide

@[simp] theorem byteOfAddr_ne_80 (a : Addr) : byteOfAddr a ≠ 0x80#8 := by revert a; decide
@[simp] theorem byteOfAddr_ne_81 (a : Addr) : byteOfAddr a ≠ 0x81#8 := by revert a; decide
@[simp] theorem byteOfAddr_ne_82 (a : Addr) : byteOfAddr a ≠ 0x82#8 := by revert a; decide
@[simp] theorem byteOfAddr_ne_8E (a : Addr) : byteOfAddr a ≠ 0x8E#8 := by revert a; decide

/-- A fixed pattern byte against a byte. -/
@[simp] theorem patternMatches_fix (v : Byte) (ps : List BytePattern) (b : Byte) (bs : List Byte) :
    patternMatches (.fix v :: ps) (b :: bs) = (b == v && patternMatches ps bs) := by
  have : b &&& 0xFF#8 = b := by revert b; decide
  simp [patternMatches, BytePattern.mask, BytePattern.value, this]

/-- The address test of R93. -/
@[simp] theorem patternMatches_address (ps : List BytePattern) (b : Byte) (bs : List Byte) :
    patternMatches (.address :: ps) (b :: bs) = (b &&& 0xE0#8 == 0#8 && patternMatches ps bs) := rfl

/-- A byte that is not tested. -/
@[simp] theorem patternMatches_any (ps : List BytePattern) (b : Byte) (bs : List Byte) :
    patternMatches (.any :: ps) (b :: bs) = patternMatches ps bs := by
  simp [patternMatches, BytePattern.mask, BytePattern.value]

@[simp] theorem patternMatches_nil : patternMatches [] [] = true := rfl

/-- A frame is its eleven bytes. -/
theorem Frame.eta (f : Frame) :
    f = #v[f[0], f[1], f[2], f[3], f[4], f[5], f[6], f[7], f[8], f[9], f[10]] := by
  apply Vector.ext
  intro i hi
  have : i = 0 ∨ i = 1 ∨ i = 2 ∨ i = 3 ∨ i = 4 ∨ i = 5 ∨ i = 6 ∨ i = 7 ∨ i = 8 ∨ i = 9 ∨ i = 10 := by
    omega
  rcases this with rfl | rfl | rfl | rfl | rfl | rfl | rfl | rfl | rfl | rfl | rfl <;> rfl

/-- A pattern of eleven bytes against a frame of eleven bytes. -/
theorem KindRow.matches_eq (row : KindRow) (f : Frame) :
    row.matches f = patternMatches row.bytes
      [f[0], f[1], f[2], f[3], f[4], f[5], f[6], f[7], f[8], f[9], f[10]] := by
  unfold KindRow.matches
  conv_lhs => rw [Frame.eta f]
  rfl

/-! ## `classify` of the frames `build` makes, one lemma per format (R92) -/

section
variable (k : MessageKind) (a : Addr) (r g b level : Byte)

theorem classify_frameSYS (h : k.format = some .sys ∨ k.format = some .bc) :
    classify (frameSYS k) = k := by
  cases k <;> simp [MessageKind.format] at h <;> decide

theorem classify_frameBCC (h : k.format = some .bcc) : classify (frameBCC k r g b) = k := by
  cases k <;> simp [MessageKind.format] at h
  simp [frameBCC, classify, classifyWith, kindTable, KindRow.matches, categoryRow, addressedRow,
    zeros, anys, MessageKind.code, MessageKind.category, sync]

theorem classify_frameBCA (h : k.format = some .bca) : classify (frameBCA k a) = k := by
  cases k <;> simp [MessageKind.format] at h
  simp [frameBCA, classify, classifyWith, kindTable, KindRow.matches, categoryRow, addressedRow,
    zeros, anys, MessageKind.code, MessageKind.category, sync]

theorem classify_frameREQ (h : k.format = some .req) : classify (frameREQ k a) = k := by
  cases k <;> simp [MessageKind.format] at h <;>
  simp [frameREQ, classify, classifyWith, kindTable, KindRow.matches, categoryRow, addressedRow,
    zeros, anys, MessageKind.code, sync]

theorem classify_frameREQL (h : k.format = some .reql) : classify (frameREQL k a level) = k := by
  cases k <;> simp [MessageKind.format] at h <;>
  simp [frameREQL, classify, classifyWith, kindTable, KindRow.matches, categoryRow, addressedRow,
    zeros, anys, MessageKind.code, sync]

theorem classify_frameREQC (h : k.format = some .reqc) : classify (frameREQC k a r g b) = k := by
  cases k <;> simp [MessageKind.format] at h
  simp [frameREQC, classify, classifyWith, kindTable, KindRow.matches, categoryRow, addressedRow,
    zeros, anys, MessageKind.code, sync]

theorem classify_frameRSPA (h : k.format = some .rspa) : classify (frameRSPA k a) = k := by
  cases k <;> simp [MessageKind.format] at h <;>
  simp [frameRSPA, classify, classifyWith, kindTable, KindRow.matches, categoryRow, addressedRow,
    zeros, anys, MessageKind.code, MessageKind.category, sync]

theorem classify_frameRSPS (s : Fragment) (h : k.format = some .rsps) :
    classify (frameRSPS k s) = k := by
  cases k <;> simp [MessageKind.format] at h <;>
  simp [frameRSPS, classify, classifyWith, kindTable, KindRow.matches, categoryRow, addressedRow,
    zeros, anys, MessageKind.code, MessageKind.category, sync]

theorem classify_startupAckUnaddressed (x : Payload) :
    classify (frameRSPI .startupAckUnaddressed 0 x) = .startupAckUnaddressed := by
  simp [frameRSPI, classify, classifyWith, kindTable, KindRow.matches, categoryRow, addressedRow,
    zeros, anys, MessageKind.code, MessageKind.category, sync, byteOfAddr]

theorem classify_startupAck {a : Addr} (h : a ≠ 0#5) (x : Payload) :
    classify (frameRSPI .startupAck a x) = .startupAck := by
  simp [frameRSPI, classify, classifyWith, kindTable, KindRow.matches, categoryRow, addressedRow,
    zeros, anys, MessageKind.code, MessageKind.category, sync, byteOfAddr_eq_zero, h]

end

end Sys2Proof
end

