-- ==== Sys2Proof/Laws/State.lean ====
section
/-! SUPPORT. One lemma per field per update of the state, so that no later proof unfolds a record
update; and what the operations with a branch leave alone. -/

namespace Sys2Proof.Machine

variable (s : State)

/-! One diagnostic event, nothing else (R262). -/

@[simp] theorem State.raise_deframer (c : DiagCode) (x : Byte) :
    (s.raise c x).deframer = s.deframer := rfl
@[simp] theorem State.raise_txbuf (c : DiagCode) (x : Byte) : (s.raise c x).txbuf = s.txbuf := rfl
@[simp] theorem State.raise_dir (c : DiagCode) (x : Byte) : (s.raise c x).dir = s.dir := rfl
@[simp] theorem State.raise_power (c : DiagCode) (x : Byte) : (s.raise c x).power = s.power := rfl
@[simp] theorem State.raise_reg (c : DiagCode) (x : Byte) : (s.raise c x).reg = s.reg := rfl
@[simp] theorem State.raise_busState (c : DiagCode) (x : Byte) :
    (s.raise c x).busState = s.busState := rfl
@[simp] theorem State.raise_noresp (c : DiagCode) (x : Byte) :
    (s.raise c x).noresp = s.noresp := rfl
@[simp] theorem State.raise_hbLast (c : DiagCode) (x : Byte) :
    (s.raise c x).hbLast = s.hbLast := rfl
@[simp] theorem State.raise_waitT0 (c : DiagCode) (x : Byte) :
    (s.raise c x).waitT0 = s.waitT0 := rfl
@[simp] theorem State.raise_waitTmo (c : DiagCode) (x : Byte) :
    (s.raise c x).waitTmo = s.waitTmo := rfl
@[simp] theorem State.raise_busy (c : DiagCode) (x : Byte) : (s.raise c x).busy = s.busy := rfl
@[simp] theorem State.raise_seq (c : DiagCode) (x : Byte) : (s.raise c x).seq = s.seq := rfl
@[simp] theorem State.raise_result (c : DiagCode) (x : Byte) :
    (s.raise c x).result = s.result := rfl
@[simp] theorem State.raise_resValid (c : DiagCode) (x : Byte) :
    (s.raise c x).resValid = s.resValid := rfl
@[simp] theorem State.raise_settings (c : DiagCode) (x : Byte) :
    (s.raise c x).settings = s.settings := rfl
@[simp] theorem State.raise_saveT (c : DiagCode) (x : Byte) : (s.raise c x).saveT = s.saveT := rfl
@[simp] theorem State.raise_now (c : DiagCode) (x : Byte) : (s.raise c x).now = s.now := rfl
@[simp] theorem State.raise_cfgOk (c : DiagCode) (x : Byte) : (s.raise c x).cfgOk = s.cfgOk := rfl
@[simp] theorem State.raise_inputs (c : DiagCode) (x : Byte) :
    (s.raise c x).inputs = s.inputs := rfl
@[simp] theorem State.raise_params (c : DiagCode) (x : Byte) :
    (s.raise c x).params = s.params := rfl
@[simp] theorem State.raise_txLog (c : DiagCode) (x : Byte) : (s.raise c x).txLog = s.txLog := rfl
@[simp] theorem State.raise_firstWrite (c : DiagCode) (x : Byte) :
    (s.raise c x).firstWrite = s.firstWrite := rfl
@[simp] theorem State.raise_resLog (c : DiagCode) (x : Byte) :
    (s.raise c x).resLog = s.resLog := rfl
@[simp] theorem State.raise_saveLog (c : DiagCode) (x : Byte) :
    (s.raise c x).saveLog = s.saveLog := rfl
@[simp] theorem State.raise_diagLog (c : DiagCode) (x : Byte) :
    (s.raise c x).diagLog = s.diagLog ++ [⟨c, x⟩] := rfl

/-! One slot of the registry (R198). -/

@[simp] theorem State.memWrite_deframer (a : Addr) (f : Slot → Slot) :
    (s.memWrite a f).deframer = s.deframer := rfl
@[simp] theorem State.memWrite_txbuf (a : Addr) (f : Slot → Slot) :
    (s.memWrite a f).txbuf = s.txbuf := rfl
@[simp] theorem State.memWrite_dir (a : Addr) (f : Slot → Slot) :
    (s.memWrite a f).dir = s.dir := rfl
@[simp] theorem State.memWrite_power (a : Addr) (f : Slot → Slot) :
    (s.memWrite a f).power = s.power := rfl
@[simp] theorem State.memWrite_reg (a : Addr) (f : Slot → Slot) :
    (s.memWrite a f).reg = s.reg.write a f := rfl
@[simp] theorem State.memWrite_busState (a : Addr) (f : Slot → Slot) :
    (s.memWrite a f).busState = s.busState := rfl
@[simp] theorem State.memWrite_noresp (a : Addr) (f : Slot → Slot) :
    (s.memWrite a f).noresp = s.noresp := rfl
@[simp] theorem State.memWrite_hbLast (a : Addr) (f : Slot → Slot) :
    (s.memWrite a f).hbLast = s.hbLast := rfl
@[simp] theorem State.memWrite_waitT0 (a : Addr) (f : Slot → Slot) :
    (s.memWrite a f).waitT0 = s.waitT0 := rfl
@[simp] theorem State.memWrite_waitTmo (a : Addr) (f : Slot → Slot) :
    (s.memWrite a f).waitTmo = s.waitTmo := rfl
@[simp] theorem State.memWrite_busy (a : Addr) (f : Slot → Slot) :
    (s.memWrite a f).busy = s.busy := rfl
@[simp] theorem State.memWrite_seq (a : Addr) (f : Slot → Slot) :
    (s.memWrite a f).seq = s.seq := rfl
@[simp] theorem State.memWrite_result (a : Addr) (f : Slot → Slot) :
    (s.memWrite a f).result = s.result := rfl
@[simp] theorem State.memWrite_resValid (a : Addr) (f : Slot → Slot) :
    (s.memWrite a f).resValid = s.resValid := rfl
@[simp] theorem State.memWrite_settings (a : Addr) (f : Slot → Slot) :
    (s.memWrite a f).settings = s.settings := rfl
@[simp] theorem State.memWrite_saveT (a : Addr) (f : Slot → Slot) :
    (s.memWrite a f).saveT = s.saveT := rfl
@[simp] theorem State.memWrite_now (a : Addr) (f : Slot → Slot) :
    (s.memWrite a f).now = s.now := rfl
@[simp] theorem State.memWrite_cfgOk (a : Addr) (f : Slot → Slot) :
    (s.memWrite a f).cfgOk = s.cfgOk := rfl
@[simp] theorem State.memWrite_inputs (a : Addr) (f : Slot → Slot) :
    (s.memWrite a f).inputs = s.inputs := rfl
@[simp] theorem State.memWrite_params (a : Addr) (f : Slot → Slot) :
    (s.memWrite a f).params = s.params := rfl
@[simp] theorem State.memWrite_txLog (a : Addr) (f : Slot → Slot) :
    (s.memWrite a f).txLog = s.txLog := rfl
@[simp] theorem State.memWrite_firstWrite (a : Addr) (f : Slot → Slot) :
    (s.memWrite a f).firstWrite = s.firstWrite := rfl
@[simp] theorem State.memWrite_resLog (a : Addr) (f : Slot → Slot) :
    (s.memWrite a f).resLog = s.resLog := rfl
@[simp] theorem State.memWrite_saveLog (a : Addr) (f : Slot → Slot) :
    (s.memWrite a f).saveLog = s.saveLog := rfl
@[simp] theorem State.memWrite_diagLog (a : Addr) (f : Slot → Slot) :
    (s.memWrite a f).diagLog = s.diagLog := rfl

/-! STATE of one slot (R197). -/

@[simp] theorem State.setDevState_deframer (a : Addr) (v : DevState) :
    (s.setDevState a v).deframer = s.deframer := rfl
@[simp] theorem State.setDevState_txbuf (a : Addr) (v : DevState) :
    (s.setDevState a v).txbuf = s.txbuf := rfl
@[simp] theorem State.setDevState_dir (a : Addr) (v : DevState) :
    (s.setDevState a v).dir = s.dir := rfl
@[simp] theorem State.setDevState_power (a : Addr) (v : DevState) :
    (s.setDevState a v).power = s.power := rfl
@[simp] theorem State.setDevState_reg (a : Addr) (v : DevState) :
    (s.setDevState a v).reg = s.reg.write a (fun r => { r with state := v }) := rfl
@[simp] theorem State.setDevState_busState (a : Addr) (v : DevState) :
    (s.setDevState a v).busState = s.busState := rfl
@[simp] theorem State.setDevState_noresp (a : Addr) (v : DevState) :
    (s.setDevState a v).noresp = s.noresp := rfl
@[simp] theorem State.setDevState_hbLast (a : Addr) (v : DevState) :
    (s.setDevState a v).hbLast = s.hbLast := rfl
@[simp] theorem State.setDevState_waitT0 (a : Addr) (v : DevState) :
    (s.setDevState a v).waitT0 = s.waitT0 := rfl
@[simp] theorem State.setDevState_waitTmo (a : Addr) (v : DevState) :
    (s.setDevState a v).waitTmo = s.waitTmo := rfl
@[simp] theorem State.setDevState_busy (a : Addr) (v : DevState) :
    (s.setDevState a v).busy = s.busy := rfl
@[simp] theorem State.setDevState_seq (a : Addr) (v : DevState) :
    (s.setDevState a v).seq = s.seq := rfl
@[simp] theorem State.setDevState_result (a : Addr) (v : DevState) :
    (s.setDevState a v).result = s.result := rfl
@[simp] theorem State.setDevState_resValid (a : Addr) (v : DevState) :
    (s.setDevState a v).resValid = s.resValid := rfl
@[simp] theorem State.setDevState_settings (a : Addr) (v : DevState) :
    (s.setDevState a v).settings = s.settings := rfl
@[simp] theorem State.setDevState_saveT (a : Addr) (v : DevState) :
    (s.setDevState a v).saveT = s.saveT := rfl
@[simp] theorem State.setDevState_now (a : Addr) (v : DevState) :
    (s.setDevState a v).now = s.now := rfl
@[simp] theorem State.setDevState_cfgOk (a : Addr) (v : DevState) :
    (s.setDevState a v).cfgOk = s.cfgOk := rfl
@[simp] theorem State.setDevState_inputs (a : Addr) (v : DevState) :
    (s.setDevState a v).inputs = s.inputs := rfl
@[simp] theorem State.setDevState_params (a : Addr) (v : DevState) :
    (s.setDevState a v).params = s.params := rfl
@[simp] theorem State.setDevState_txLog (a : Addr) (v : DevState) :
    (s.setDevState a v).txLog = s.txLog := rfl
@[simp] theorem State.setDevState_firstWrite (a : Addr) (v : DevState) :
    (s.setDevState a v).firstWrite = s.firstWrite := rfl
@[simp] theorem State.setDevState_resLog (a : Addr) (v : DevState) :
    (s.setDevState a v).resLog = s.resLog := rfl
@[simp] theorem State.setDevState_saveLog (a : Addr) (v : DevState) :
    (s.setDevState a v).saveLog = s.saveLog := rfl
@[simp] theorem State.setDevState_diagLog (a : Addr) (v : DevState) :
    (s.setDevState a v).diagLog = s.diagLog := rfl

/-! A device registered (R221). -/

@[simp] theorem State.register_deframer (a : Addr) : (s.register a).deframer = s.deframer := rfl
@[simp] theorem State.register_txbuf (a : Addr) : (s.register a).txbuf = s.txbuf := rfl
@[simp] theorem State.register_dir (a : Addr) : (s.register a).dir = s.dir := rfl
@[simp] theorem State.register_power (a : Addr) : (s.register a).power = s.power := rfl
theorem State.register_reg (a : Addr) :
    (s.register a).reg = (s.reg.getOrCreate (byteOfAddr a)).1.write a (fun r => { r with state := .inactive }) := rfl
@[simp] theorem State.register_busState (a : Addr) : (s.register a).busState = s.busState := rfl
@[simp] theorem State.register_noresp (a : Addr) : (s.register a).noresp = s.noresp := rfl
@[simp] theorem State.register_hbLast (a : Addr) : (s.register a).hbLast = s.hbLast := rfl
@[simp] theorem State.register_waitT0 (a : Addr) : (s.register a).waitT0 = s.waitT0 := rfl
@[simp] theorem State.register_waitTmo (a : Addr) : (s.register a).waitTmo = s.waitTmo := rfl
@[simp] theorem State.register_busy (a : Addr) : (s.register a).busy = s.busy := rfl
@[simp] theorem State.register_seq (a : Addr) : (s.register a).seq = s.seq := rfl
@[simp] theorem State.register_result (a : Addr) : (s.register a).result = s.result := rfl
@[simp] theorem State.register_resValid (a : Addr) : (s.register a).resValid = s.resValid := rfl
@[simp] theorem State.register_settings (a : Addr) : (s.register a).settings = s.settings := rfl
@[simp] theorem State.register_saveT (a : Addr) : (s.register a).saveT = s.saveT := rfl
@[simp] theorem State.register_now (a : Addr) : (s.register a).now = s.now := rfl
@[simp] theorem State.register_cfgOk (a : Addr) : (s.register a).cfgOk = s.cfgOk := rfl
@[simp] theorem State.register_inputs (a : Addr) : (s.register a).inputs = s.inputs := rfl
@[simp] theorem State.register_params (a : Addr) : (s.register a).params = s.params := rfl
@[simp] theorem State.register_txLog (a : Addr) : (s.register a).txLog = s.txLog := rfl
@[simp] theorem State.register_firstWrite (a : Addr) :
    (s.register a).firstWrite = s.firstWrite := rfl
@[simp] theorem State.register_resLog (a : Addr) : (s.register a).resLog = s.resLog := rfl
@[simp] theorem State.register_saveLog (a : Addr) : (s.register a).saveLog = s.saveLog := rfl
@[simp] theorem State.register_diagLog (a : Addr) : (s.register a).diagLog = s.diagLog := rfl

/-! One record on the save port (R241). -/

@[simp] theorem State.persist_deframer : (s.persist).deframer = s.deframer := rfl
@[simp] theorem State.persist_txbuf : (s.persist).txbuf = s.txbuf := rfl
@[simp] theorem State.persist_dir : (s.persist).dir = s.dir := rfl
@[simp] theorem State.persist_power : (s.persist).power = s.power := rfl
@[simp] theorem State.persist_reg : (s.persist).reg = s.reg := rfl
@[simp] theorem State.persist_busState : (s.persist).busState = s.busState := rfl
@[simp] theorem State.persist_noresp : (s.persist).noresp = s.noresp := rfl
@[simp] theorem State.persist_hbLast : (s.persist).hbLast = s.hbLast := rfl
@[simp] theorem State.persist_waitT0 : (s.persist).waitT0 = s.waitT0 := rfl
@[simp] theorem State.persist_waitTmo : (s.persist).waitTmo = s.waitTmo := rfl
@[simp] theorem State.persist_busy : (s.persist).busy = s.busy := rfl
@[simp] theorem State.persist_seq : (s.persist).seq = s.seq := rfl
@[simp] theorem State.persist_result : (s.persist).result = s.result := rfl
@[simp] theorem State.persist_resValid : (s.persist).resValid = s.resValid := rfl
@[simp] theorem State.persist_settings : (s.persist).settings = s.settings := rfl
@[simp] theorem State.persist_saveT : (s.persist).saveT = s.saveT := rfl
@[simp] theorem State.persist_now : (s.persist).now = s.now := rfl
@[simp] theorem State.persist_cfgOk : (s.persist).cfgOk = s.cfgOk := rfl
@[simp] theorem State.persist_inputs : (s.persist).inputs = s.inputs := rfl
@[simp] theorem State.persist_params : (s.persist).params = s.params := rfl
@[simp] theorem State.persist_txLog : (s.persist).txLog = s.txLog := rfl
@[simp] theorem State.persist_firstWrite : (s.persist).firstWrite = s.firstWrite := rfl
@[simp] theorem State.persist_resLog : (s.persist).resLog = s.resLog := rfl
@[simp] theorem State.persist_saveLog :
    (s.persist).saveLog = s.saveLog ++ [recordOf s.settings] := rfl
@[simp] theorem State.persist_diagLog : (s.persist).diagLog = s.diagLog := rfl

/-! The end of a command (R220). -/

@[simp] theorem State.finish_deframer (r : Result) : (s.finish r).deframer = s.deframer := rfl
@[simp] theorem State.finish_txbuf (r : Result) : (s.finish r).txbuf = s.txbuf := rfl
@[simp] theorem State.finish_dir (r : Result) : (s.finish r).dir = s.dir := rfl
@[simp] theorem State.finish_power (r : Result) : (s.finish r).power = s.power := rfl
@[simp] theorem State.finish_reg (r : Result) : (s.finish r).reg = s.reg := rfl
@[simp] theorem State.finish_busState (r : Result) : (s.finish r).busState = s.busState := rfl
@[simp] theorem State.finish_noresp (r : Result) : (s.finish r).noresp = s.noresp := rfl
@[simp] theorem State.finish_hbLast (r : Result) : (s.finish r).hbLast = s.hbLast := rfl
@[simp] theorem State.finish_waitT0 (r : Result) : (s.finish r).waitT0 = s.waitT0 := rfl
@[simp] theorem State.finish_waitTmo (r : Result) : (s.finish r).waitTmo = s.waitTmo := rfl
@[simp] theorem State.finish_busy (r : Result) : (s.finish r).busy = false := rfl
@[simp] theorem State.finish_seq (r : Result) : (s.finish r).seq = .idle := rfl
@[simp] theorem State.finish_result (r : Result) : (s.finish r).result = r := rfl
@[simp] theorem State.finish_resValid (r : Result) : (s.finish r).resValid = true := rfl
@[simp] theorem State.finish_settings (r : Result) : (s.finish r).settings = s.settings := rfl
@[simp] theorem State.finish_saveT (r : Result) : (s.finish r).saveT = s.saveT := rfl
@[simp] theorem State.finish_now (r : Result) : (s.finish r).now = s.now := rfl
@[simp] theorem State.finish_cfgOk (r : Result) : (s.finish r).cfgOk = s.cfgOk := rfl
@[simp] theorem State.finish_inputs (r : Result) : (s.finish r).inputs = s.inputs := rfl
@[simp] theorem State.finish_params (r : Result) : (s.finish r).params = s.params := rfl
@[simp] theorem State.finish_txLog (r : Result) : (s.finish r).txLog = s.txLog := rfl
@[simp] theorem State.finish_firstWrite (r : Result) :
    (s.finish r).firstWrite = s.firstWrite := rfl
@[simp] theorem State.finish_resLog (r : Result) : (s.finish r).resLog = s.resLog ++ [r] := rfl
@[simp] theorem State.finish_saveLog (r : Result) : (s.finish r).saveLog = s.saveLog := rfl
@[simp] theorem State.finish_diagLog (r : Result) : (s.finish r).diagLog = s.diagLog := rfl

/-! The start of a wait (R210). -/

@[simp] theorem State.startWait_deframer (n : Word32) :
    (s.startWait n).deframer = s.deframer := rfl
@[simp] theorem State.startWait_txbuf (n : Word32) : (s.startWait n).txbuf = s.txbuf := rfl
@[simp] theorem State.startWait_dir (n : Word32) : (s.startWait n).dir = s.dir := rfl
@[simp] theorem State.startWait_power (n : Word32) : (s.startWait n).power = s.power := rfl
@[simp] theorem State.startWait_reg (n : Word32) : (s.startWait n).reg = s.reg := rfl
@[simp] theorem State.startWait_busState (n : Word32) :
    (s.startWait n).busState = s.busState := rfl
@[simp] theorem State.startWait_noresp (n : Word32) : (s.startWait n).noresp = s.noresp := rfl
@[simp] theorem State.startWait_hbLast (n : Word32) : (s.startWait n).hbLast = s.hbLast := rfl
@[simp] theorem State.startWait_waitT0 (n : Word32) : (s.startWait n).waitT0 = s.now := rfl
@[simp] theorem State.startWait_waitTmo (n : Word32) : (s.startWait n).waitTmo = n := rfl
@[simp] theorem State.startWait_busy (n : Word32) : (s.startWait n).busy = s.busy := rfl
@[simp] theorem State.startWait_seq (n : Word32) : (s.startWait n).seq = s.seq := rfl
@[simp] theorem State.startWait_result (n : Word32) : (s.startWait n).result = s.result := rfl
@[simp] theorem State.startWait_resValid (n : Word32) :
    (s.startWait n).resValid = s.resValid := rfl
@[simp] theorem State.startWait_settings (n : Word32) :
    (s.startWait n).settings = s.settings := rfl
@[simp] theorem State.startWait_saveT (n : Word32) : (s.startWait n).saveT = s.saveT := rfl
@[simp] theorem State.startWait_now (n : Word32) : (s.startWait n).now = s.now := rfl
@[simp] theorem State.startWait_cfgOk (n : Word32) : (s.startWait n).cfgOk = s.cfgOk := rfl
@[simp] theorem State.startWait_inputs (n : Word32) : (s.startWait n).inputs = s.inputs := rfl
@[simp] theorem State.startWait_params (n : Word32) : (s.startWait n).params = s.params := rfl
@[simp] theorem State.startWait_txLog (n : Word32) : (s.startWait n).txLog = s.txLog := rfl
@[simp] theorem State.startWait_firstWrite (n : Word32) :
    (s.startWait n).firstWrite = s.firstWrite := rfl
@[simp] theorem State.startWait_resLog (n : Word32) : (s.startWait n).resLog = s.resLog := rfl
@[simp] theorem State.startWait_saveLog (n : Word32) : (s.startWait n).saveLog = s.saveLog := rfl
@[simp] theorem State.startWait_diagLog (n : Word32) : (s.startWait n).diagLog = s.diagLog := rfl

/-! A delay line (R210). -/

@[simp] theorem State.startDelay_deframer (d : DelayLine) (n : Word32) :
    (s.startDelay d n).deframer = s.deframer := rfl
@[simp] theorem State.startDelay_txbuf (d : DelayLine) (n : Word32) :
    (s.startDelay d n).txbuf = s.txbuf := rfl
@[simp] theorem State.startDelay_dir (d : DelayLine) (n : Word32) :
    (s.startDelay d n).dir = s.dir := rfl
@[simp] theorem State.startDelay_power (d : DelayLine) (n : Word32) :
    (s.startDelay d n).power = s.power := rfl
@[simp] theorem State.startDelay_reg (d : DelayLine) (n : Word32) :
    (s.startDelay d n).reg = s.reg := rfl
@[simp] theorem State.startDelay_busState (d : DelayLine) (n : Word32) :
    (s.startDelay d n).busState = s.busState := rfl
@[simp] theorem State.startDelay_noresp (d : DelayLine) (n : Word32) :
    (s.startDelay d n).noresp = s.noresp := rfl
@[simp] theorem State.startDelay_hbLast (d : DelayLine) (n : Word32) :
    (s.startDelay d n).hbLast = s.hbLast := rfl
@[simp] theorem State.startDelay_waitT0 (d : DelayLine) (n : Word32) :
    (s.startDelay d n).waitT0 = s.now := rfl
@[simp] theorem State.startDelay_waitTmo (d : DelayLine) (n : Word32) :
    (s.startDelay d n).waitTmo = n := rfl
@[simp] theorem State.startDelay_busy (d : DelayLine) (n : Word32) :
    (s.startDelay d n).busy = s.busy := rfl
@[simp] theorem State.startDelay_seq (d : DelayLine) (n : Word32) :
    (s.startDelay d n).seq = .delaying d := rfl
@[simp] theorem State.startDelay_result (d : DelayLine) (n : Word32) :
    (s.startDelay d n).result = s.result := rfl
@[simp] theorem State.startDelay_resValid (d : DelayLine) (n : Word32) :
    (s.startDelay d n).resValid = s.resValid := rfl
@[simp] theorem State.startDelay_settings (d : DelayLine) (n : Word32) :
    (s.startDelay d n).settings = s.settings := rfl
@[simp] theorem State.startDelay_saveT (d : DelayLine) (n : Word32) :
    (s.startDelay d n).saveT = s.saveT := rfl
@[simp] theorem State.startDelay_now (d : DelayLine) (n : Word32) :
    (s.startDelay d n).now = s.now := rfl
@[simp] theorem State.startDelay_cfgOk (d : DelayLine) (n : Word32) :
    (s.startDelay d n).cfgOk = s.cfgOk := rfl
@[simp] theorem State.startDelay_inputs (d : DelayLine) (n : Word32) :
    (s.startDelay d n).inputs = s.inputs := rfl
@[simp] theorem State.startDelay_params (d : DelayLine) (n : Word32) :
    (s.startDelay d n).params = s.params := rfl
@[simp] theorem State.startDelay_txLog (d : DelayLine) (n : Word32) :
    (s.startDelay d n).txLog = s.txLog := rfl
@[simp] theorem State.startDelay_firstWrite (d : DelayLine) (n : Word32) :
    (s.startDelay d n).firstWrite = s.firstWrite := rfl
@[simp] theorem State.startDelay_resLog (d : DelayLine) (n : Word32) :
    (s.startDelay d n).resLog = s.resLog := rfl
@[simp] theorem State.startDelay_saveLog (d : DelayLine) (n : Word32) :
    (s.startDelay d n).saveLog = s.saveLog := rfl
@[simp] theorem State.startDelay_diagLog (d : DelayLine) (n : Word32) :
    (s.startDelay d n).diagLog = s.diagLog := rfl

/-! The call of Transmit. -/

@[simp] theorem State.load_deframer (l : Line) (a : Addr) (f : Frame) :
    (s.load l a f).deframer = s.deframer := rfl
@[simp] theorem State.load_txbuf (l : Line) (a : Addr) (f : Frame) :
    (s.load l a f).txbuf = f := rfl
@[simp] theorem State.load_dir (l : Line) (a : Addr) (f : Frame) :
    (s.load l a f).dir = s.dir := rfl
@[simp] theorem State.load_power (l : Line) (a : Addr) (f : Frame) :
    (s.load l a f).power = s.power := rfl
@[simp] theorem State.load_reg (l : Line) (a : Addr) (f : Frame) :
    (s.load l a f).reg = s.reg := rfl
@[simp] theorem State.load_busState (l : Line) (a : Addr) (f : Frame) :
    (s.load l a f).busState = s.busState := rfl
@[simp] theorem State.load_noresp (l : Line) (a : Addr) (f : Frame) :
    (s.load l a f).noresp = s.noresp := rfl
@[simp] theorem State.load_hbLast (l : Line) (a : Addr) (f : Frame) :
    (s.load l a f).hbLast = s.hbLast := rfl
@[simp] theorem State.load_waitT0 (l : Line) (a : Addr) (f : Frame) :
    (s.load l a f).waitT0 = s.waitT0 := rfl
@[simp] theorem State.load_waitTmo (l : Line) (a : Addr) (f : Frame) :
    (s.load l a f).waitTmo = s.waitTmo := rfl
@[simp] theorem State.load_busy (l : Line) (a : Addr) (f : Frame) :
    (s.load l a f).busy = s.busy := rfl
@[simp] theorem State.load_seq (l : Line) (a : Addr) (f : Frame) :
    (s.load l a f).seq = .line l a .transmitStart := rfl
@[simp] theorem State.load_result (l : Line) (a : Addr) (f : Frame) :
    (s.load l a f).result = s.result := rfl
@[simp] theorem State.load_resValid (l : Line) (a : Addr) (f : Frame) :
    (s.load l a f).resValid = s.resValid := rfl
@[simp] theorem State.load_settings (l : Line) (a : Addr) (f : Frame) :
    (s.load l a f).settings = s.settings := rfl
@[simp] theorem State.load_saveT (l : Line) (a : Addr) (f : Frame) :
    (s.load l a f).saveT = s.saveT := rfl
@[simp] theorem State.load_now (l : Line) (a : Addr) (f : Frame) :
    (s.load l a f).now = s.now := rfl
@[simp] theorem State.load_cfgOk (l : Line) (a : Addr) (f : Frame) :
    (s.load l a f).cfgOk = s.cfgOk := rfl
@[simp] theorem State.load_inputs (l : Line) (a : Addr) (f : Frame) :
    (s.load l a f).inputs = s.inputs := rfl
@[simp] theorem State.load_params (l : Line) (a : Addr) (f : Frame) :
    (s.load l a f).params = s.params := rfl
@[simp] theorem State.load_txLog (l : Line) (a : Addr) (f : Frame) :
    (s.load l a f).txLog = s.txLog := rfl
@[simp] theorem State.load_firstWrite (l : Line) (a : Addr) (f : Frame) :
    (s.load l a f).firstWrite = s.firstWrite := rfl
@[simp] theorem State.load_resLog (l : Line) (a : Addr) (f : Frame) :
    (s.load l a f).resLog = s.resLog := rfl
@[simp] theorem State.load_saveLog (l : Line) (a : Addr) (f : Frame) :
    (s.load l a f).saveLog = s.saveLog := rfl
@[simp] theorem State.load_diagLog (l : Line) (a : Addr) (f : Frame) :
    (s.load l a f).diagLog = s.diagLog := rfl

/-! A line reached by the scheduler. -/

@[simp] theorem State.enter_deframer (l : Line) (a : Addr) :
    (s.enter l a).deframer = s.deframer := rfl
@[simp] theorem State.enter_txbuf (l : Line) (a : Addr) :
    (s.enter l a).txbuf = l.request a s.settings := rfl
@[simp] theorem State.enter_dir (l : Line) (a : Addr) : (s.enter l a).dir = s.dir := rfl
@[simp] theorem State.enter_power (l : Line) (a : Addr) : (s.enter l a).power = s.power := rfl
@[simp] theorem State.enter_reg (l : Line) (a : Addr) : (s.enter l a).reg = s.reg := rfl
@[simp] theorem State.enter_busState (l : Line) (a : Addr) :
    (s.enter l a).busState = s.busState := rfl
@[simp] theorem State.enter_noresp (l : Line) (a : Addr) : (s.enter l a).noresp = s.noresp := rfl
@[simp] theorem State.enter_hbLast (l : Line) (a : Addr) : (s.enter l a).hbLast = s.hbLast := rfl
@[simp] theorem State.enter_waitT0 (l : Line) (a : Addr) : (s.enter l a).waitT0 = s.waitT0 := rfl
@[simp] theorem State.enter_waitTmo (l : Line) (a : Addr) :
    (s.enter l a).waitTmo = s.waitTmo := rfl
@[simp] theorem State.enter_busy (l : Line) (a : Addr) : (s.enter l a).busy = s.busy := rfl
@[simp] theorem State.enter_seq (l : Line) (a : Addr) :
    (s.enter l a).seq = .line l a .transmitStart := rfl
@[simp] theorem State.enter_result (l : Line) (a : Addr) : (s.enter l a).result = s.result := rfl
@[simp] theorem State.enter_resValid (l : Line) (a : Addr) :
    (s.enter l a).resValid = s.resValid := rfl
@[simp] theorem State.enter_settings (l : Line) (a : Addr) :
    (s.enter l a).settings = s.settings := rfl
@[simp] theorem State.enter_saveT (l : Line) (a : Addr) : (s.enter l a).saveT = s.saveT := rfl
@[simp] theorem State.enter_now (l : Line) (a : Addr) : (s.enter l a).now = s.now := rfl
@[simp] theorem State.enter_cfgOk (l : Line) (a : Addr) : (s.enter l a).cfgOk = s.cfgOk := rfl
@[simp] theorem State.enter_inputs (l : Line) (a : Addr) : (s.enter l a).inputs = s.inputs := rfl
@[simp] theorem State.enter_params (l : Line) (a : Addr) : (s.enter l a).params = s.params := rfl
@[simp] theorem State.enter_txLog (l : Line) (a : Addr) : (s.enter l a).txLog = s.txLog := rfl
@[simp] theorem State.enter_firstWrite (l : Line) (a : Addr) :
    (s.enter l a).firstWrite = s.firstWrite := rfl
@[simp] theorem State.enter_resLog (l : Line) (a : Addr) : (s.enter l a).resLog = s.resLog := rfl
@[simp] theorem State.enter_saveLog (l : Line) (a : Addr) :
    (s.enter l a).saveLog = s.saveLog := rfl
@[simp] theorem State.enter_diagLog (l : Line) (a : Addr) :
    (s.enter l a).diagLog = s.diagLog := rfl

/-! A request about to be transmitted. -/

@[simp] theorem State.requesting_deframer (l : Line) (a : Addr) (f : Frame) :
    (s.requesting l a f).deframer = s.deframer := rfl
@[simp] theorem State.requesting_txbuf (l : Line) (a : Addr) (f : Frame) :
    (s.requesting l a f).txbuf = f := rfl
@[simp] theorem State.requesting_dir (l : Line) (a : Addr) (f : Frame) :
    (s.requesting l a f).dir = s.dir := rfl
@[simp] theorem State.requesting_power (l : Line) (a : Addr) (f : Frame) :
    (s.requesting l a f).power = s.power := rfl
@[simp] theorem State.requesting_reg (l : Line) (a : Addr) (f : Frame) :
    (s.requesting l a f).reg = s.reg := rfl
@[simp] theorem State.requesting_busState (l : Line) (a : Addr) (f : Frame) :
    (s.requesting l a f).busState = s.busState := rfl
@[simp] theorem State.requesting_noresp (l : Line) (a : Addr) (f : Frame) :
    (s.requesting l a f).noresp = s.noresp := rfl
@[simp] theorem State.requesting_hbLast (l : Line) (a : Addr) (f : Frame) :
    (s.requesting l a f).hbLast = s.hbLast := rfl
@[simp] theorem State.requesting_waitT0 (l : Line) (a : Addr) (f : Frame) :
    (s.requesting l a f).waitT0 = s.waitT0 := rfl
@[simp] theorem State.requesting_waitTmo (l : Line) (a : Addr) (f : Frame) :
    (s.requesting l a f).waitTmo = s.waitTmo := rfl
@[simp] theorem State.requesting_busy (l : Line) (a : Addr) (f : Frame) :
    (s.requesting l a f).busy = s.busy := rfl
@[simp] theorem State.requesting_seq (l : Line) (a : Addr) (f : Frame) :
    (s.requesting l a f).seq = .line l a .transmitStart := rfl
@[simp] theorem State.requesting_result (l : Line) (a : Addr) (f : Frame) :
    (s.requesting l a f).result = s.result := rfl
@[simp] theorem State.requesting_resValid (l : Line) (a : Addr) (f : Frame) :
    (s.requesting l a f).resValid = s.resValid := rfl
@[simp] theorem State.requesting_settings (l : Line) (a : Addr) (f : Frame) :
    (s.requesting l a f).settings = s.settings := rfl
@[simp] theorem State.requesting_saveT (l : Line) (a : Addr) (f : Frame) :
    (s.requesting l a f).saveT = s.saveT := rfl
@[simp] theorem State.requesting_now (l : Line) (a : Addr) (f : Frame) :
    (s.requesting l a f).now = s.now := rfl
@[simp] theorem State.requesting_cfgOk (l : Line) (a : Addr) (f : Frame) :
    (s.requesting l a f).cfgOk = s.cfgOk := rfl
@[simp] theorem State.requesting_inputs (l : Line) (a : Addr) (f : Frame) :
    (s.requesting l a f).inputs = s.inputs := rfl
@[simp] theorem State.requesting_params (l : Line) (a : Addr) (f : Frame) :
    (s.requesting l a f).params = s.params := rfl
@[simp] theorem State.requesting_txLog (l : Line) (a : Addr) (f : Frame) :
    (s.requesting l a f).txLog = s.txLog := rfl
@[simp] theorem State.requesting_firstWrite (l : Line) (a : Addr) (f : Frame) :
    (s.requesting l a f).firstWrite = s.firstWrite := rfl
@[simp] theorem State.requesting_resLog (l : Line) (a : Addr) (f : Frame) :
    (s.requesting l a f).resLog = s.resLog := rfl
@[simp] theorem State.requesting_saveLog (l : Line) (a : Addr) (f : Frame) :
    (s.requesting l a f).saveLog = s.saveLog := rfl
@[simp] theorem State.requesting_diagLog (l : Line) (a : Addr) (f : Frame) :
    (s.requesting l a f).diagLog = s.diagLog := rfl

/-! A command just ended. -/

@[simp] theorem State.ended_deframer (r : Result) : (s.ended r).deframer = s.deframer := rfl
@[simp] theorem State.ended_txbuf (r : Result) : (s.ended r).txbuf = s.txbuf := rfl
@[simp] theorem State.ended_dir (r : Result) : (s.ended r).dir = s.dir := rfl
@[simp] theorem State.ended_power (r : Result) : (s.ended r).power = s.power := rfl
@[simp] theorem State.ended_reg (r : Result) : (s.ended r).reg = s.reg := rfl
@[simp] theorem State.ended_busState (r : Result) : (s.ended r).busState = s.busState := rfl
@[simp] theorem State.ended_noresp (r : Result) : (s.ended r).noresp = s.noresp := rfl
@[simp] theorem State.ended_hbLast (r : Result) : (s.ended r).hbLast = s.hbLast := rfl
@[simp] theorem State.ended_waitT0 (r : Result) : (s.ended r).waitT0 = s.waitT0 := rfl
@[simp] theorem State.ended_waitTmo (r : Result) : (s.ended r).waitTmo = s.waitTmo := rfl
@[simp] theorem State.ended_busy (r : Result) : (s.ended r).busy = false := rfl
@[simp] theorem State.ended_seq (r : Result) : (s.ended r).seq = .idle := rfl
@[simp] theorem State.ended_result (r : Result) : (s.ended r).result = r := rfl
@[simp] theorem State.ended_resValid (r : Result) : (s.ended r).resValid = true := rfl
@[simp] theorem State.ended_settings (r : Result) : (s.ended r).settings = s.settings := rfl
@[simp] theorem State.ended_saveT (r : Result) : (s.ended r).saveT = s.saveT := rfl
@[simp] theorem State.ended_now (r : Result) : (s.ended r).now = s.now := rfl
@[simp] theorem State.ended_cfgOk (r : Result) : (s.ended r).cfgOk = s.cfgOk := rfl
@[simp] theorem State.ended_inputs (r : Result) : (s.ended r).inputs = s.inputs := rfl
@[simp] theorem State.ended_params (r : Result) : (s.ended r).params = s.params := rfl
@[simp] theorem State.ended_txLog (r : Result) : (s.ended r).txLog = s.txLog := rfl
@[simp] theorem State.ended_firstWrite (r : Result) : (s.ended r).firstWrite = s.firstWrite := rfl
@[simp] theorem State.ended_resLog (r : Result) : (s.ended r).resLog = s.resLog ++ [r] := rfl
@[simp] theorem State.ended_saveLog (r : Result) : (s.ended r).saveLog = s.saveLog := rfl
@[simp] theorem State.ended_diagLog (r : Result) : (s.ended r).diagLog = s.diagLog := rfl

/-! The deframer reset (R181). -/

@[simp] theorem State.deframerReset_deframer : (s.deframerReset).deframer = s.deframer.reset := rfl
@[simp] theorem State.deframerReset_txbuf : (s.deframerReset).txbuf = s.txbuf := rfl
@[simp] theorem State.deframerReset_dir : (s.deframerReset).dir = s.dir := rfl
@[simp] theorem State.deframerReset_power : (s.deframerReset).power = s.power := rfl
@[simp] theorem State.deframerReset_reg : (s.deframerReset).reg = s.reg := rfl
@[simp] theorem State.deframerReset_busState : (s.deframerReset).busState = s.busState := rfl
@[simp] theorem State.deframerReset_noresp : (s.deframerReset).noresp = s.noresp := rfl
@[simp] theorem State.deframerReset_hbLast : (s.deframerReset).hbLast = s.hbLast := rfl
@[simp] theorem State.deframerReset_waitT0 : (s.deframerReset).waitT0 = s.waitT0 := rfl
@[simp] theorem State.deframerReset_waitTmo : (s.deframerReset).waitTmo = s.waitTmo := rfl
@[simp] theorem State.deframerReset_busy : (s.deframerReset).busy = s.busy := rfl
@[simp] theorem State.deframerReset_seq : (s.deframerReset).seq = s.seq := rfl
@[simp] theorem State.deframerReset_result : (s.deframerReset).result = s.result := rfl
@[simp] theorem State.deframerReset_resValid : (s.deframerReset).resValid = s.resValid := rfl
@[simp] theorem State.deframerReset_settings : (s.deframerReset).settings = s.settings := rfl
@[simp] theorem State.deframerReset_saveT : (s.deframerReset).saveT = s.saveT := rfl
@[simp] theorem State.deframerReset_now : (s.deframerReset).now = s.now := rfl
@[simp] theorem State.deframerReset_cfgOk : (s.deframerReset).cfgOk = s.cfgOk := rfl
@[simp] theorem State.deframerReset_inputs : (s.deframerReset).inputs = s.inputs := rfl
@[simp] theorem State.deframerReset_params : (s.deframerReset).params = s.params := rfl
@[simp] theorem State.deframerReset_txLog : (s.deframerReset).txLog = s.txLog := rfl
@[simp] theorem State.deframerReset_firstWrite :
    (s.deframerReset).firstWrite = s.firstWrite := rfl
@[simp] theorem State.deframerReset_resLog : (s.deframerReset).resLog = s.resLog := rfl
@[simp] theorem State.deframerReset_saveLog : (s.deframerReset).saveLog = s.saveLog := rfl
@[simp] theorem State.deframerReset_diagLog : (s.deframerReset).diagLog = s.diagLog := rfl

/-! The first lines of Transmit (R201). -/

@[simp] theorem State.beginTransmit_deframer (l : Line) (a : Addr) (f : Frame) :
    (s.beginTransmit l a f).deframer = s.deframer.reset := rfl
@[simp] theorem State.beginTransmit_txbuf (l : Line) (a : Addr) (f : Frame) :
    (s.beginTransmit l a f).txbuf = f := rfl
@[simp] theorem State.beginTransmit_dir (l : Line) (a : Addr) (f : Frame) :
    (s.beginTransmit l a f).dir = true := rfl
@[simp] theorem State.beginTransmit_power (l : Line) (a : Addr) (f : Frame) :
    (s.beginTransmit l a f).power = s.power := rfl
@[simp] theorem State.beginTransmit_reg (l : Line) (a : Addr) (f : Frame) :
    (s.beginTransmit l a f).reg = s.reg := rfl
@[simp] theorem State.beginTransmit_busState (l : Line) (a : Addr) (f : Frame) :
    (s.beginTransmit l a f).busState = s.busState := rfl
@[simp] theorem State.beginTransmit_noresp (l : Line) (a : Addr) (f : Frame) :
    (s.beginTransmit l a f).noresp = s.noresp := rfl
@[simp] theorem State.beginTransmit_hbLast (l : Line) (a : Addr) (f : Frame) :
    (s.beginTransmit l a f).hbLast = s.hbLast := rfl
@[simp] theorem State.beginTransmit_waitT0 (l : Line) (a : Addr) (f : Frame) :
    (s.beginTransmit l a f).waitT0 = s.now := rfl
@[simp] theorem State.beginTransmit_waitTmo (l : Line) (a : Addr) (f : Frame) :
    (s.beginTransmit l a f).waitTmo = s.params.dirSetup := rfl
@[simp] theorem State.beginTransmit_busy (l : Line) (a : Addr) (f : Frame) :
    (s.beginTransmit l a f).busy = s.busy := rfl
@[simp] theorem State.beginTransmit_seq (l : Line) (a : Addr) (f : Frame) :
    (s.beginTransmit l a f).seq = .line l a .setup := rfl
@[simp] theorem State.beginTransmit_result (l : Line) (a : Addr) (f : Frame) :
    (s.beginTransmit l a f).result = s.result := rfl
@[simp] theorem State.beginTransmit_resValid (l : Line) (a : Addr) (f : Frame) :
    (s.beginTransmit l a f).resValid = s.resValid := rfl
@[simp] theorem State.beginTransmit_settings (l : Line) (a : Addr) (f : Frame) :
    (s.beginTransmit l a f).settings = s.settings := rfl
@[simp] theorem State.beginTransmit_saveT (l : Line) (a : Addr) (f : Frame) :
    (s.beginTransmit l a f).saveT = s.saveT := rfl
@[simp] theorem State.beginTransmit_now (l : Line) (a : Addr) (f : Frame) :
    (s.beginTransmit l a f).now = s.now := rfl
@[simp] theorem State.beginTransmit_cfgOk (l : Line) (a : Addr) (f : Frame) :
    (s.beginTransmit l a f).cfgOk = s.cfgOk := rfl
@[simp] theorem State.beginTransmit_inputs (l : Line) (a : Addr) (f : Frame) :
    (s.beginTransmit l a f).inputs = s.inputs := rfl
@[simp] theorem State.beginTransmit_params (l : Line) (a : Addr) (f : Frame) :
    (s.beginTransmit l a f).params = s.params := rfl
@[simp] theorem State.beginTransmit_txLog (l : Line) (a : Addr) (f : Frame) :
    (s.beginTransmit l a f).txLog = s.txLog ++ [(s.now, f)] := rfl
@[simp] theorem State.beginTransmit_firstWrite (l : Line) (a : Addr) (f : Frame) :
    (s.beginTransmit l a f).firstWrite = s.firstWrite := rfl
@[simp] theorem State.beginTransmit_resLog (l : Line) (a : Addr) (f : Frame) :
    (s.beginTransmit l a f).resLog = s.resLog := rfl
@[simp] theorem State.beginTransmit_saveLog (l : Line) (a : Addr) (f : Frame) :
    (s.beginTransmit l a f).saveLog = s.saveLog := rfl
@[simp] theorem State.beginTransmit_diagLog (l : Line) (a : Addr) (f : Frame) :
    (s.beginTransmit l a f).diagLog = s.diagLog := rfl

/-! The inputs of a clock (R50). -/

@[simp] theorem State.sample_deframer (c : Clock) (rest : List Clock) :
    (s.sample c rest).deframer = s.deframer := rfl
@[simp] theorem State.sample_txbuf (c : Clock) (rest : List Clock) :
    (s.sample c rest).txbuf = s.txbuf := rfl
@[simp] theorem State.sample_dir (c : Clock) (rest : List Clock) :
    (s.sample c rest).dir = s.dir := rfl
@[simp] theorem State.sample_power (c : Clock) (rest : List Clock) :
    (s.sample c rest).power = s.power := rfl
@[simp] theorem State.sample_reg (c : Clock) (rest : List Clock) :
    (s.sample c rest).reg = s.reg := rfl
@[simp] theorem State.sample_busState (c : Clock) (rest : List Clock) :
    (s.sample c rest).busState = s.busState := rfl
@[simp] theorem State.sample_noresp (c : Clock) (rest : List Clock) :
    (s.sample c rest).noresp = s.noresp := rfl
@[simp] theorem State.sample_hbLast (c : Clock) (rest : List Clock) :
    (s.sample c rest).hbLast = s.hbLast := rfl
@[simp] theorem State.sample_waitT0 (c : Clock) (rest : List Clock) :
    (s.sample c rest).waitT0 = s.waitT0 := rfl
@[simp] theorem State.sample_waitTmo (c : Clock) (rest : List Clock) :
    (s.sample c rest).waitTmo = s.waitTmo := rfl
@[simp] theorem State.sample_busy (c : Clock) (rest : List Clock) :
    (s.sample c rest).busy = s.busy := rfl
@[simp] theorem State.sample_seq (c : Clock) (rest : List Clock) :
    (s.sample c rest).seq = s.seq := rfl
@[simp] theorem State.sample_result (c : Clock) (rest : List Clock) :
    (s.sample c rest).result = s.result := rfl
@[simp] theorem State.sample_resValid (c : Clock) (rest : List Clock) :
    (s.sample c rest).resValid = false := rfl
@[simp] theorem State.sample_settings (c : Clock) (rest : List Clock) :
    (s.sample c rest).settings = s.settings := rfl
@[simp] theorem State.sample_saveT (c : Clock) (rest : List Clock) :
    (s.sample c rest).saveT = s.saveT := rfl
@[simp] theorem State.sample_now (c : Clock) (rest : List Clock) :
    (s.sample c rest).now = c.now := rfl
@[simp] theorem State.sample_cfgOk (c : Clock) (rest : List Clock) :
    (s.sample c rest).cfgOk = c.cfgOk := rfl
@[simp] theorem State.sample_inputs (c : Clock) (rest : List Clock) :
    (s.sample c rest).inputs = rest := rfl
@[simp] theorem State.sample_params (c : Clock) (rest : List Clock) :
    (s.sample c rest).params = s.params := rfl
@[simp] theorem State.sample_txLog (c : Clock) (rest : List Clock) :
    (s.sample c rest).txLog = s.txLog := rfl
@[simp] theorem State.sample_firstWrite (c : Clock) (rest : List Clock) :
    (s.sample c rest).firstWrite = s.firstWrite := rfl
@[simp] theorem State.sample_resLog (c : Clock) (rest : List Clock) :
    (s.sample c rest).resLog = s.resLog := rfl
@[simp] theorem State.sample_saveLog (c : Clock) (rest : List Clock) :
    (s.sample c rest).saveLog = s.saveLog := rfl
@[simp] theorem State.sample_diagLog (c : Clock) (rest : List Clock) :
    (s.sample c rest).diagLog = s.diagLog := rfl

/-! SaveRuntime (R250): SAVE_T moves, ACTIVE_S accrues, a record goes out if it changed. -/

@[simp] theorem State.saveRuntime_deframer : s.saveRuntime.deframer = s.deframer := by
  unfold State.saveRuntime; split <;> rfl
@[simp] theorem State.saveRuntime_txbuf : s.saveRuntime.txbuf = s.txbuf := by
  unfold State.saveRuntime; split <;> rfl
@[simp] theorem State.saveRuntime_dir : s.saveRuntime.dir = s.dir := by
  unfold State.saveRuntime; split <;> rfl
@[simp] theorem State.saveRuntime_power : s.saveRuntime.power = s.power := by
  unfold State.saveRuntime; split <;> rfl
@[simp] theorem State.saveRuntime_reg : s.saveRuntime.reg = s.reg := by
  unfold State.saveRuntime; split <;> rfl
@[simp] theorem State.saveRuntime_busState : s.saveRuntime.busState = s.busState := by
  unfold State.saveRuntime; split <;> rfl
@[simp] theorem State.saveRuntime_noresp : s.saveRuntime.noresp = s.noresp := by
  unfold State.saveRuntime; split <;> rfl
@[simp] theorem State.saveRuntime_hbLast : s.saveRuntime.hbLast = s.hbLast := by
  unfold State.saveRuntime; split <;> rfl
@[simp] theorem State.saveRuntime_waitT0 : s.saveRuntime.waitT0 = s.waitT0 := by
  unfold State.saveRuntime; split <;> rfl
@[simp] theorem State.saveRuntime_waitTmo : s.saveRuntime.waitTmo = s.waitTmo := by
  unfold State.saveRuntime; split <;> rfl
@[simp] theorem State.saveRuntime_busy : s.saveRuntime.busy = s.busy := by
  unfold State.saveRuntime; split <;> rfl
@[simp] theorem State.saveRuntime_seq : s.saveRuntime.seq = s.seq := by
  unfold State.saveRuntime; split <;> rfl
@[simp] theorem State.saveRuntime_result : s.saveRuntime.result = s.result := by
  unfold State.saveRuntime; split <;> rfl
@[simp] theorem State.saveRuntime_resValid : s.saveRuntime.resValid = s.resValid := by
  unfold State.saveRuntime; split <;> rfl
@[simp] theorem State.saveRuntime_now : s.saveRuntime.now = s.now := by
  unfold State.saveRuntime; split <;> rfl
@[simp] theorem State.saveRuntime_cfgOk : s.saveRuntime.cfgOk = s.cfgOk := by
  unfold State.saveRuntime; split <;> rfl
@[simp] theorem State.saveRuntime_inputs : s.saveRuntime.inputs = s.inputs := by
  unfold State.saveRuntime; split <;> rfl
@[simp] theorem State.saveRuntime_params : s.saveRuntime.params = s.params := by
  unfold State.saveRuntime; split <;> rfl
@[simp] theorem State.saveRuntime_txLog : s.saveRuntime.txLog = s.txLog := by
  unfold State.saveRuntime; split <;> rfl
@[simp] theorem State.saveRuntime_firstWrite : s.saveRuntime.firstWrite = s.firstWrite := by
  unfold State.saveRuntime; split <;> rfl
@[simp] theorem State.saveRuntime_resLog : s.saveRuntime.resLog = s.resLog := by
  unfold State.saveRuntime; split <;> rfl
@[simp] theorem State.saveRuntime_diagLog : s.saveRuntime.diagLog = s.diagLog := by
  unfold State.saveRuntime; split <;> rfl
@[simp] theorem State.saveRuntime_settings :
    s.saveRuntime.settings = { s.settings with activeS := s.accrued } := by
  unfold State.saveRuntime; split <;> rfl
@[simp] theorem State.saveRuntime_saveT : s.saveRuntime.saveT = s.now := by
  unfold State.saveRuntime; split <;> rfl

@[simp] theorem State.raise_accrued (c : DiagCode) (x : Byte) :
    (s.raise c x).accrued = s.accrued := rfl
@[simp] theorem State.raise_on (c : DiagCode) (x : Byte) : (s.raise c x).on = s.on := rfl
@[simp] theorem State.saveRuntime_on : s.saveRuntime.on = s.on := by simp [State.on]

/-! EnterError (R266): the trap entry of RBC. -/

@[simp] theorem State.enterError_deframer : s.enterError.deframer = s.deframer := by
  simp [State.enterError]
@[simp] theorem State.enterError_txbuf : s.enterError.txbuf = s.txbuf := by
  simp [State.enterError]
@[simp] theorem State.enterError_dir : s.enterError.dir = false := by
  simp [State.enterError]
@[simp] theorem State.enterError_power : s.enterError.power = false := by
  simp [State.enterError]
@[simp] theorem State.enterError_reg : s.enterError.reg = s.reg.allOffline := by
  simp [State.enterError]
@[simp] theorem State.enterError_busState : s.enterError.busState = .error := by
  simp [State.enterError]
@[simp] theorem State.enterError_noresp : s.enterError.noresp = s.noresp := by
  simp [State.enterError]
@[simp] theorem State.enterError_hbLast : s.enterError.hbLast = s.hbLast := by
  simp [State.enterError]
@[simp] theorem State.enterError_waitT0 : s.enterError.waitT0 = s.waitT0 := by
  simp [State.enterError]
@[simp] theorem State.enterError_waitTmo : s.enterError.waitTmo = s.waitTmo := by
  simp [State.enterError]
@[simp] theorem State.enterError_busy : s.enterError.busy = s.busy := by
  simp [State.enterError]
@[simp] theorem State.enterError_seq : s.enterError.seq = s.seq := by
  simp [State.enterError]
@[simp] theorem State.enterError_result : s.enterError.result = s.result := by
  simp [State.enterError]
@[simp] theorem State.enterError_resValid : s.enterError.resValid = s.resValid := by
  simp [State.enterError]
@[simp] theorem State.enterError_saveT : s.enterError.saveT = s.now := by
  simp [State.enterError]
@[simp] theorem State.enterError_now : s.enterError.now = s.now := by
  simp [State.enterError]
@[simp] theorem State.enterError_cfgOk : s.enterError.cfgOk = s.cfgOk := by
  simp [State.enterError]
@[simp] theorem State.enterError_inputs : s.enterError.inputs = s.inputs := by
  simp [State.enterError]
@[simp] theorem State.enterError_params : s.enterError.params = s.params := by
  simp [State.enterError]
@[simp] theorem State.enterError_txLog : s.enterError.txLog = s.txLog := by
  simp [State.enterError]
@[simp] theorem State.enterError_firstWrite : s.enterError.firstWrite = s.firstWrite := by
  simp [State.enterError]
@[simp] theorem State.enterError_resLog : s.enterError.resLog = s.resLog := by
  simp [State.enterError]
@[simp] theorem State.enterError_diagLog : s.enterError.diagLog = s.diagLog ++ [⟨.config, BitVec.ofNat 8 s.busState.code⟩] := by
  simp [State.enterError]
@[simp] theorem State.enterError_settings :
    s.enterError.settings = { s.settings with activeS := s.accrued } := by
  simp [State.enterError]

end Sys2Proof.Machine
end

