-- ==== Sys2Proof/Laws/Registry.lean ====
section
/-! SUPPORT. The registry: what a slot reads as after each operation, the loops' next slot, and that
every memory operation keeps the canonical form `Memory.wf`. -/

namespace Sys2Proof.Machine

/-! ## Reads after writes -/

@[simp] theorem Registry.slot_write_self (reg : Registry) (a : Addr) (f : Slot → Slot) :
    (reg.write a f).slot a = f (reg.slot a) := by
  simp [Registry.write, Registry.slot, Vector.get_eq_getElem]

theorem Registry.slot_write_ne (reg : Registry) {a b : Addr} (h : b ≠ a) (f : Slot → Slot) :
    (reg.write a f).slot b = reg.slot b := by
  have : a.toNat ≠ b.toNat := fun e => h (BitVec.eq_of_toNat_eq e.symm)
  simp [Registry.write, Registry.slot, Vector.get_eq_getElem, this]

theorem Registry.slot_write (reg : Registry) (a b : Addr) (f : Slot → Slot) :
    (reg.write a f).slot b = if b = a then f (reg.slot b) else reg.slot b := by
  split
  · subst_vars; simp
  · exact Registry.slot_write_ne reg ‹_› f

@[simp] theorem Registry.slot_allOffline (reg : Registry) (a : Addr) :
    reg.allOffline.slot a =
      if (reg.slot a).present then { reg.slot a with state := .offline } else reg.slot a := by
  simp only [Registry.allOffline, Registry.slot, Vector.get_eq_getElem, Vector.getElem_mk,
    List.getElem_toArray, List.getElem_map, Vector.getElem_toList]
  rfl

/-- A write that keeps PRESENT of its slot keeps PRESENT of every slot. -/
theorem Registry.present_write {reg : Registry} {a : Addr} {f : Slot → Slot}
    (h : (f (reg.slot a)).present = (reg.slot a).present) (b : Addr) :
    ((reg.write a f).slot b).present = (reg.slot b).present := by
  rw [Registry.slot_write]
  split
  · subst_vars; exact h
  · rfl

/-- Two registries with the same slots are the same registry. -/
theorem Registry.ext_slot {r r' : Registry} (h : ∀ a : Addr, r.slot a = r'.slot a) : r = r' := by
  apply Vector.ext
  intro i hi
  have := h (BitVec.ofNat 5 i)
  simpa [Registry.slot, Vector.get_eq_getElem, Nat.mod_eq_of_lt hi] using this

@[simp] theorem Registry.present_toNat (reg : Registry) (a : Addr) :
    reg.present a.toNat = (reg.slot a).present := by
  have : a.toNat < 32 := a.isLt
  simp [Registry.present, Registry.slot, Vector.get_eq_getElem, this]

theorem Registry.present_lt {reg : Registry} {i : Nat} (h : reg.present i = true) : i < 32 := by
  by_contra hn
  simp [Registry.present, Vector.getElem?_eq_none (by omega : 32 ≤ i)] at h

theorem Registry.present_ofNat (reg : Registry) {i : Nat} (h : i < 32) :
    reg.present i = (reg.slot (BitVec.ofNat 5 i)).present := by
  rw [← Registry.present_toNat]; simp [Nat.mod_eq_of_lt h]

/-! ## The first index that satisfies a test -/

theorem firstIndex_some {p : Nat → Bool} {fuel i j : Nat} (h : firstIndex p fuel i = some j) :
    i ≤ j ∧ j < i + fuel ∧ p j = true ∧ ∀ k, i ≤ k → k < j → p k = false := by
  induction fuel generalizing i with
  | zero => simp [firstIndex] at h
  | succ n ih =>
    rw [firstIndex] at h
    split at h
    · next hp => injection h with h; subst h; exact ⟨le_rfl, by omega, hp, fun k _ _ => by omega⟩
    · next hp =>
      obtain ⟨h1, h2, h3, h4⟩ := ih h
      refine ⟨by omega, by omega, h3, fun k hk hkj => ?_⟩
      rcases Nat.eq_or_lt_of_le hk with rfl | hlt
      · simpa using hp
      · exact h4 k hlt hkj

theorem firstIndex_none {p : Nat → Bool} {fuel i : Nat} (h : firstIndex p fuel i = none) :
    ∀ k, i ≤ k → k < i + fuel → p k = false := by
  induction fuel generalizing i with
  | zero => intro k _ _; omega
  | succ n ih =>
    rw [firstIndex] at h
    split at h
    · cases h
    · next hp =>
      intro k hk hlt
      rcases Nat.eq_or_lt_of_le hk with rfl | h1
      · simpa using hp
      · exact ih h k h1 (by omega)

/-- What `next` answers: the lowest slot at or after `i` that is present and satisfies `p`. -/
theorem Registry.next_some {reg : Registry} {p : Slot → Bool} {i : Nat} {a : Addr}
    (h : reg.next p i = some a) :
    i ≤ a.toNat ∧ (reg.slot a).present = true ∧ p (reg.slot a) = true ∧
      ∀ b : Addr, i ≤ b.toNat → b.toNat < a.toNat →
        ((reg.slot b).present && p (reg.slot b)) = false := by
  unfold Registry.next at h
  obtain ⟨j, hj, rfl⟩ := Option.map_eq_some_iff.mp h
  obtain ⟨h1, h2, h3, h4⟩ := firstIndex_some hj
  simp only [Bool.and_eq_true] at h3
  have hlt := Registry.present_lt h3.1
  have hto : (BitVec.ofNat 5 j).toNat = j := by simp [Nat.mod_eq_of_lt hlt]
  refine ⟨by omega, by rw [← Registry.present_ofNat _ hlt]; exact h3.1, h3.2, fun b hb hbj => ?_⟩
  have := h4 b.toNat hb (by omega)
  simpa [BitVec.ofNat_toNat] using this

/-- What `next` answers past the end of a loop: no slot at or after `i` is present and satisfies `p`. -/
theorem Registry.next_none {reg : Registry} {p : Slot → Bool} {i : Nat} (h : reg.next p i = none) :
    ∀ b : Addr, i ≤ b.toNat → ((reg.slot b).present && p (reg.slot b)) = false := by
  unfold Registry.next at h
  intro b hb
  have hlt : b.toNat < 32 := b.isLt
  have := firstIndex_none (Option.map_eq_none_iff.mp h) b.toNat hb (by omega)
  simpa [BitVec.ofNat_toNat] using this

/-! ## The canonical form -/

theorem Memory.wf_iff (reg : Registry) : Memory.wf reg = true ↔ ∀ a : Addr, (reg.slot a).wf = true := by
  simp only [Memory.wf, List.all_eq_true, Vector.mem_toList_iff]
  constructor
  · intro h a
    apply h
    simp [Registry.slot, Vector.get_eq_getElem]
  · intro h x hx
    obtain ⟨i, hi, rfl⟩ := Vector.getElem_of_mem hx
    have := h (BitVec.ofNat 5 i)
    simpa [Registry.slot, Vector.get_eq_getElem, Nat.mod_eq_of_lt hi] using this

/-- A write keeps the canonical form if what it writes to its slot has it. -/
theorem Memory.wf_write {reg : Registry} (h : Memory.wf reg = true) (a : Addr) (f : Slot → Slot)
    (hf : (f (reg.slot a)).wf = true) : Memory.wf (reg.write a f) = true := by
  rw [Memory.wf_iff] at h ⊢
  intro b
  rw [Registry.slot_write]
  split
  · subst_vars; exact hf
  · exact h b

theorem Memory.wf_reset : Memory.wf State.reset.reg = true := by decide

/-- Writing STATE of a present slot keeps the canonical form. -/
theorem Memory.wf_state {reg : Registry} (h : Memory.wf reg = true) {a : Addr}
    (hp : (reg.slot a).present = true) (v : DevState) :
    Memory.wf (reg.write a fun r => { r with state := v }) = true := by
  refine Memory.wf_write h a _ ?_
  have := (Memory.wf_iff reg).mp h a
  simp_all [Slot.wf]

theorem printable_isPrintable (b : Byte) : isPrintable (printable b) = true := by
  revert b; decide

theorem serialFragment_printable (f : Frame) : (serialFragment f).toList.all isPrintable = true := by
  simp [serialFragment, printable_isPrintable]

/-- Storing a filtered fragment in a present slot keeps the canonical form. -/
theorem Memory.wf_ser1 {reg : Registry} (h : Memory.wf reg = true) {a : Addr}
    (hp : (reg.slot a).present = true) (f : Frame) :
    Memory.wf (reg.write a fun r => { r with ser1 := serialFragment f, ser1V := true }) = true := by
  refine Memory.wf_write h a _ ?_
  have := (Memory.wf_iff reg).mp h a
  have hs := serialFragment_printable f
  simp only [Slot.wf, hp, hs] at this ⊢
  simp_all

theorem Memory.wf_ser2 {reg : Registry} (h : Memory.wf reg = true) {a : Addr}
    (hp : (reg.slot a).present = true) (f : Frame) :
    Memory.wf (reg.write a fun r => { r with ser2 := serialFragment f, ser2V := true }) = true := by
  refine Memory.wf_write h a _ ?_
  have := (Memory.wf_iff reg).mp h a
  have hs := serialFragment_printable f
  simp only [Slot.wf, hp, hs] at this ⊢
  simp_all

/-- Recording the warm-up time of a present slot keeps the canonical form. -/
theorem Memory.wf_warm {reg : Registry} (h : Memory.wf reg = true) {a : Addr}
    (hp : (reg.slot a).present = true) (t : Word32) :
    Memory.wf (reg.write a fun r => { r with state := .warmingUp, warmT0 := t, warmT0V := true })
      = true := by
  refine Memory.wf_write h a _ ?_
  have := (Memory.wf_iff reg).mp h a
  simp_all [Slot.wf]

theorem Memory.wf_allOffline {reg : Registry} (h : Memory.wf reg = true) :
    Memory.wf reg.allOffline = true := by
  rw [Memory.wf_iff] at h ⊢
  intro a
  have := h a
  rw [Registry.slot_allOffline]
  split
  · simp_all [Slot.wf]
  · exact this

theorem Slot.wf_create {r : Slot} : r.create.wf = true := by simp [Slot.create, Slot.wf]

theorem Memory.wf_getOrCreate {reg : Registry} (h : Memory.wf reg = true) (a : Byte) :
    Memory.wf (reg.getOrCreate a).1 = true := by
  unfold Registry.getOrCreate
  split
  · exact h
  · dsimp only
    split
    · exact h
    · exact Memory.wf_write h _ _ Slot.wf_create

/-! ## `get_or_create` of a slot index -/

theorem addrOfByte_byteOfAddr (a : Addr) : addrOfByte (byteOfAddr a) = a := by
  revert a; decide

theorem byteOfAddr_le (a : Addr) : ¬ 0x1F < byteOfAddr a := by
  revert a; decide

theorem Registry.getOrCreate_addr (reg : Registry) (a : Addr) :
    (reg.getOrCreate (byteOfAddr a)).1 =
      if (reg.slot a).present then reg else reg.write a Slot.create := by
  simp only [Registry.getOrCreate, byteOfAddr_le, addrOfByte_byteOfAddr, if_false]
  split <;> rfl

/-- Registering a device (R221): its slot is present and Inactive, with a fresh record if it had none;
every other slot stays. -/
@[simp] theorem State.register_slot (s : State) (a b : Addr) :
    (s.register a).reg.slot b =
      if b = a then
        { (if (s.reg.slot a).present then s.reg.slot a else (s.reg.slot a).create)
          with state := .inactive }
      else s.reg.slot b := by
  simp only [State.register_reg, Registry.getOrCreate_addr, Registry.slot_write]
  split
  · subst_vars; split <;> simp
  · split
    · rfl
    · rw [Registry.slot_write_ne _ ‹_›]

theorem State.register_present (s : State) (a : Addr) :
    ((s.register a).reg.slot a).present = true := by
  rw [State.register_slot, if_pos rfl]
  split
  · assumption
  · simp [Slot.create]

theorem State.register_wf {s : State} (h : Memory.wf s.reg = true) (a : Addr) :
    Memory.wf (s.register a).reg = true := by
  rw [State.register_reg]
  refine Memory.wf_state (Memory.wf_getOrCreate h _) ?_ _
  rw [Registry.getOrCreate_addr]
  split
  · assumption
  · simp [Slot.create]

end Sys2Proof.Machine
end

