-- ==== Sys2Proof/Laws/Ops.lean ====
section
/-! SUPPORT. One lemma per shared operation that says once everything it can do: command acceptance, the
guard, a frame as an instruction, the loops, `Expect`, the deframer's step. -/

namespace Sys2Proof.Machine

/-! ## Commands -/

theorem acceptCommand_busy {s : State} (h : s.busy = true) (body : State → State) :
    acceptCommand body s = .next s := by simp [acceptCommand, h]

theorem acceptCommand_free {s : State} (h : s.busy = false) (body : State → State) :
    acceptCommand body s = .next (body { s with busy := true }) := by simp [acceptCommand, h]

theorem guarded_ok {s : State} (h : s.cfgOk = true) (body : State → State) :
    s.guarded body = body s := by simp [State.guarded, h]

theorem guarded_bad {s : State} (h : s.cfgOk = false) (body : State → State) :
    s.guarded body = (if s.busState = .error then s else s.enterError).finish .configError := by
  simp [State.guarded, h]

/-- What a host command does once accepted; a frame instruction is no command. -/
def commandBody : Instr → State → State
  | .powerOn => powerOnBody
  | .powerOff => powerOffBody
  | .heartbeatPoll => heartbeatPollBody
  | .saveRuntime => saveRuntimeBody
  | .setRGB r g b => setRGBBody r g b
  | .setBrightness v => setBrightnessBody v
  | .setWarnAt v => setWarnAtBody v
  | .setAutoShutoff v => setAutoShutoffBody v
  | .loadSettings bytes => loadSettingsBody bytes
  | .getBusState => getBusStateBody
  | .getDevice a => getDeviceBody a
  | .getRuntimeHours => getRuntimeHoursBody
  | .getPercentLeft => getPercentLeftBody
  | .getHeartbeatDue => getHeartbeatDueBody
  | .rebind => rebindBody
  | _ => id

/-- Every host command is run by `acceptCommand`. -/
theorem exec_command {i : Instr} {c : Byte} (h : i.code = some c) (s : State) :
    exec i s = acceptCommand (commandBody i) s := by
  cases i <;> simp [Instr.code] at h <;> rfl

/-- An instruction is a frame or a command. -/
theorem kind_or_code (i : Instr) : (∃ k, i.kind = some k) ∨ ∃ c, i.code = some c := by
  cases i <;> simp [Instr.kind, Instr.code]

/-! ## Frames as instructions -/

/-- Every frame instruction is run by `frameMeaning`, with its own kind and its own frame. -/
theorem exec_frame {i : Instr} {k : MessageKind} (h : i.kind = some k) (s : State) :
    ∃ f, encode i = .frame f ∧ exec i s = frameMeaning i.wellFormed k f s := by
  cases i <;> simp [Instr.kind] at h <;> subst h <;> exact ⟨_, rfl, rfl⟩

theorem frameMeaning_start {s : State} {l : Line} {a : Addr} (h : s.seq = .line l a .transmitStart)
    (k : MessageKind) (f : Frame) : frameMeaning true k f s = .next (s.beginTransmit l a f) := by
  simp [frameMeaning, h]

theorem frameMeaning_answer {s : State} {l : Line} {a : Addr} (h : s.seq = .line l a .answer)
    (legal : Bool) (k : MessageKind) (f : Frame) :
    frameMeaning legal k f s = .next (s.returned l a (some (k, f))) := by
  simp [frameMeaning, h]

/-- The three things a frame can do: go out, answer the exchange that waits, or be stale. -/
theorem frameMeaning_cases (legal : Bool) (k : MessageKind) (f : Frame) (s : State) :
    (∃ l a, s.seq = .line l a .transmitStart ∧
      frameMeaning legal k f s = .next (if legal then s.beginTransmit l a f else s)) ∨
    (∃ l a, s.seq = .line l a .answer ∧
      frameMeaning legal k f s = .next (s.returned l a (some (k, f)))) ∨
    ((∀ l a, s.seq ≠ .line l a .transmitStart ∧ s.seq ≠ .line l a .answer) ∧
      frameMeaning legal k f s = .next (s.raise .stale k.id)) := by
  unfold frameMeaning
  split
  · next l a h => exact .inl ⟨l, a, h, by split <;> rfl⟩
  · next l a h => exact .inr (.inl ⟨l, a, h, rfl⟩)
  all_goals next h => exact .inr (.inr ⟨by simp [h], rfl⟩)

/-! ## Loops over the present devices -/

/-- A loop at index `i`: the next present device's request, or what follows the loop. -/
theorem loopFrom_cases (s : State) (l : Line) (i : Nat) (done : State → State) :
    (∃ a, s.IsNext i a ∧ s.loopFrom l i done = s.enter l a) ∨
    (s.NoneFrom i ∧ s.loopFrom l i done = done s) := by
  unfold State.loopFrom
  split
  · next a h =>
    obtain ⟨h1, h2, -, h4⟩ := Registry.next_some h
    exact .inl ⟨a, ⟨h1, h2, by simpa using h4⟩, rfl⟩
  · next h => exact .inr ⟨by simpa using Registry.next_none h, rfl⟩

theorem isNext_unique {s : State} {i : Nat} {a b : Addr} (ha : s.IsNext i a) (hb : s.IsNext i b) :
    a = b := by
  obtain ⟨ha1, ha2, ha3⟩ := ha
  obtain ⟨hb1, hb2, hb3⟩ := hb
  rcases Nat.lt_trichotomy a.toNat b.toNat with h | h | h
  · simp [hb3 a ha1 h] at ha2
  · exact BitVec.eq_of_toNat_eq h
  · simp [ha3 b hb1 h] at hb2

theorem loopFrom_next {s : State} {i : Nat} {a : Addr} (h : s.IsNext i a) (l : Line)
    (done : State → State) : s.loopFrom l i done = s.enter l a := by
  rcases loopFrom_cases s l i done with ⟨b, hb, e⟩ | ⟨hn, -⟩
  · rw [e, isNext_unique hb h]
  · exact absurd h.2.1 (by simp [hn a h.1])

theorem loopFrom_none {s : State} {i : Nat} (h : s.NoneFrom i) (l : Line) (done : State → State) :
    s.loopFrom l i done = done s := by
  rcases loopFrom_cases s l i done with ⟨b, hb, -⟩ | ⟨-, e⟩
  · exact absurd hb.2.1 (by simp [h b hb.1])
  · exact e

/-- Which slot is next depends on PRESENT only. -/
theorem isNext_congr {s t : State} (h : ∀ b, (t.reg.slot b).present = (s.reg.slot b).present)
    (i : Nat) (n : Addr) : t.IsNext i n ↔ s.IsNext i n := by simp [State.IsNext, h]

theorem noneFrom_congr {s t : State} (h : ∀ b, (t.reg.slot b).present = (s.reg.slot b).present)
    (i : Nat) : t.NoneFrom i ↔ s.NoneFrom i := by simp [State.NoneFrom, h]

/-- No device in a state: the count is 0. -/
theorem count_eq_zero (reg : Registry) (st : DevState) :
    reg.count st = 0 ↔ ∀ a, (reg.slot a).present = true → (reg.slot a).state ≠ st := by
  simp only [Registry.count, List.countP_eq_zero]
  constructor
  · intro h a ha hs
    have := h (reg.slot a) (by simp [Registry.slot, Vector.get_eq_getElem])
    simp [ha, hs] at this
  · intro h r hr
    obtain ⟨i, hi, rfl⟩ := Vector.getElem_of_mem (Vector.mem_toList_iff.mp hr)
    have := h (BitVec.ofNat 5 i)
    simp only [Registry.slot, Vector.get_eq_getElem] at this
    simpa [Nat.mod_eq_of_lt hi] using this

/-! ## Expect -/

theorem expect_none (s : State) (k : MessageKind) (onOk : Frame → State → State) :
    s.expect none k onOk = s := rfl

theorem expect_ok (s : State) (k : MessageKind) (f : Frame) (onOk : Frame → State → State) :
    s.expect (some (k, f)) k onOk = onOk f s := by simp [State.expect]

theorem expect_other (s : State) {k k' : MessageKind} (h : k' ≠ k) (f : Frame)
    (onOk : Frame → State → State) :
    s.expect (some (k', f)) k onOk = s.raise .unexpected k'.id := by simp [State.expect, h]

/-! ## The deframer -/

/-- What one deframer step can emit: the whole buffer, at a boundary with eleven bytes, and nothing
else. -/
theorem Deframer.step_emits {d : Deframer} {now : Word32} {rx : Option Byte} {f : Frame}
    (h : (d.step now rx).2.1 = some f) :
    d.gapOver now = true ∧ d.cnt = 11 ∧ f = d.buf := by
  have hg : (d.gap now).2.1 = some f := by
    unfold Deframer.step at h
    cases rx <;> exact h
  unfold Deframer.gap at hg
  split at hg
  · next hov =>
    split at hg
    · next hc => simp at hg; exact ⟨hov, hc, hg.symm⟩
    · simp at hg
  · simp at hg

/-! ## One clock -/

/-- The received byte moves neither SEQ nor BUSY (R77, R206). -/
theorem receiveByte_seq_busy (s : State) (rx : Option Byte) :
    (s.receiveByte rx).1.seq = s.seq ∧ (s.receiveByte rx).1.busy = s.busy := by
  unfold State.receiveByte
  cases rx with
  | none => exact ⟨rfl, rfl⟩
  | some b => simp only; split <;> exact ⟨rfl, rfl⟩

/-- A clock without `rst`: the received byte, the scheduler's step, command acceptance (R271). -/
theorem clock_events {c : Clock} {s t : State} {e : Option Frame} {u : State} (hr : c.rst = false)
    (h : s.receiveByte c.rx = (t, e)) (hs : schedulerStep c.txReady c.txIdle e t = .next u) :
    clock c s = acceptStep c.cmd u := by
  simp [clock, hr, h, hs]

/-- Acceptance: nothing while BUSY is 1 or with no command; BadCommand; or the decoded command runs. -/
theorem acceptStep_cases (cmd : Option Cmd) (s : State) :
    ((cmd = none ∨ s.busy = true) ∧ acceptStep cmd s = .next s) ∨
    (∃ c r, cmd = some c ∧ s.busy = false ∧ decodeCmd c = .error r ∧
      acceptStep cmd s = .next (s.badCommand c.op)) ∨
    (∃ c i, cmd = some c ∧ s.busy = false ∧ decodeCmd c = .ok i ∧ acceptStep cmd s = exec i s) := by
  cases cmd with
  | none => exact .inl ⟨.inl rfl, rfl⟩
  | some c =>
    cases hb : s.busy with
    | true => exact .inl ⟨.inr rfl, by simp [acceptStep, hb]⟩
    | false =>
      cases hd : decodeCmd c with
      | error r => exact .inr (.inl ⟨c, r, rfl, rfl, hd, by simp [acceptStep, hb, hd]⟩)
      | ok i => exact .inr (.inr ⟨c, i, rfl, rfl, hd, by simp [acceptStep, hb, hd]⟩)

end Sys2Proof.Machine
end

