-- ==== Sys2Proof/Laws/PerInstr.lean ====
section
/-! SUPPORT. The per-instruction family `EncodesItsKind`: the packet of a well-formed instruction carries
the instruction's own kind (as `classify` sees it) or its own command code with enough arguments. -/

namespace Sys2Proof.Laws

/-- The encoding of a frame instruction classifies as its kind; the encoding of a command has its code
and at least the argument bytes that code needs. -/
def EncodesItsKind.Statement (i : Instr) : Prop :=
  i.wellFormed = true →
    match encode i with
    | .frame f => i.kind = some (classify f)
    | .command c => i.code = some c.op ∧ ∃ n, argsNeeded c.op = some n ∧ n ≤ c.len

namespace EncodesItsKind

/-! ## Frame kinds -/

theorem discover : Statement .discover := fun _ =>
  congrArg some (classify_frameSYS _ (.inl rfl)).symm

theorem powerUp : Statement .powerUp := fun _ =>
  congrArg some (classify_frameSYS _ (.inl rfl)).symm

theorem powerDown : Statement .powerDown := fun _ =>
  congrArg some (classify_frameSYS _ (.inl rfl)).symm

theorem color (r g b : Byte) : Statement (.color r g b) := fun _ =>
  congrArg some (classify_frameBCC _ _ _ _ rfl).symm

theorem colorConfirm : Statement .colorConfirm := fun _ =>
  congrArg some (classify_frameSYS _ (.inr rfl)).symm

theorem setAddress (a : Addr) : Statement (.setAddress a) := fun _ =>
  congrArg some (classify_frameBCA _ _ rfl).symm

theorem heartbeat (a : Addr) : Statement (.heartbeat a) := fun _ =>
  congrArg some (classify_frameREQ _ _ rfl).symm

theorem serialRequest1 (a : Addr) : Statement (.serialRequest1 a) := fun _ =>
  congrArg some (classify_frameREQ _ _ rfl).symm

theorem serialRequest2 (a : Addr) : Statement (.serialRequest2 a) := fun _ =>
  congrArg some (classify_frameREQ _ _ rfl).symm

theorem warmup (a : Addr) : Statement (.warmup a) := fun _ =>
  congrArg some (classify_frameREQ _ _ rfl).symm

theorem warmupComplete (a : Addr) : Statement (.warmupComplete a) := fun _ =>
  congrArg some (classify_frameREQ _ _ rfl).symm

theorem ledOnConfirm (a : Addr) : Statement (.ledOnConfirm a) := fun _ =>
  congrArg some (classify_frameREQ _ _ rfl).symm

theorem startupComplete (a : Addr) : Statement (.startupComplete a) := fun _ =>
  congrArg some (classify_frameREQ _ _ rfl).symm

theorem ledBrightness (a : Addr) (level : Byte) : Statement (.ledBrightness a level) := fun _ =>
  congrArg some (classify_frameREQL _ _ _ rfl).symm

theorem ledBrightnessStartup (a : Addr) (level : Byte) : Statement (.ledBrightnessStartup a level) := fun _ =>
  congrArg some (classify_frameREQL _ _ _ rfl).symm

theorem colorStartup (a : Addr) (r g b : Byte) : Statement (.colorStartup a r g b) := fun _ =>
  congrArg some (classify_frameREQC _ _ _ _ _ rfl).symm

theorem warmupAck (a : Addr) : Statement (.warmupAck a) := fun _ =>
  congrArg some (classify_frameRSPA _ _ rfl).symm

theorem warmupCompleteAck (a : Addr) : Statement (.warmupCompleteAck a) := fun _ =>
  congrArg some (classify_frameRSPA _ _ rfl).symm

theorem heartbeatRunning (a : Addr) : Statement (.heartbeatRunning a) := fun _ =>
  congrArg some (classify_frameRSPA _ _ rfl).symm

theorem ledBrightnessAck (a : Addr) : Statement (.ledBrightnessAck a) := fun _ =>
  congrArg some (classify_frameRSPA _ _ rfl).symm

theorem ledBrightnessAckStartup (a : Addr) : Statement (.ledBrightnessAckStartup a) := fun _ =>
  congrArg some (classify_frameRSPA _ _ rfl).symm

theorem colorStartupAck (a : Addr) : Statement (.colorStartupAck a) := fun _ =>
  congrArg some (classify_frameRSPA _ _ rfl).symm

theorem ledOnAck (a : Addr) : Statement (.ledOnAck a) := fun _ =>
  congrArg some (classify_frameRSPA _ _ rfl).symm

theorem startupCompleteAck (a : Addr) : Statement (.startupCompleteAck a) := fun _ =>
  congrArg some (classify_frameRSPA _ _ rfl).symm

theorem serialReply1 (s : Fragment) : Statement (.serialReply1 s) := fun _ =>
  congrArg some (classify_frameRSPS _ _ rfl).symm

theorem serialReply2 (s : Fragment) : Statement (.serialReply2 s) := fun _ =>
  congrArg some (classify_frameRSPS _ _ rfl).symm

theorem startupAckUnaddressed (x : Payload) : Statement (.startupAckUnaddressed x) := fun _ =>
  congrArg some (classify_startupAckUnaddressed x).symm

theorem startupAck (a : Addr) (x : Payload) : Statement (.startupAck a x) := fun h =>
  congrArg some (classify_startupAck (by simpa [Instr.wellFormed] using h) x).symm

/-! ## Host commands -/

theorem powerOn : Statement .powerOn := fun _ =>
  ⟨rfl, _, rfl, by simp⟩

theorem powerOff : Statement .powerOff := fun _ =>
  ⟨rfl, _, rfl, by simp⟩

theorem heartbeatPoll : Statement .heartbeatPoll := fun _ =>
  ⟨rfl, _, rfl, by simp⟩

theorem saveRuntime : Statement .saveRuntime := fun _ =>
  ⟨rfl, _, rfl, by simp⟩

theorem setRGB (r g b : Byte) : Statement (.setRGB r g b) := fun _ =>
  ⟨rfl, _, rfl, by simp⟩

theorem setBrightness (v : Byte) : Statement (.setBrightness v) := fun _ =>
  ⟨rfl, _, rfl, by simp⟩

theorem setWarnAt (seconds : Word32) : Statement (.setWarnAt seconds) := fun _ =>
  ⟨rfl, _, rfl, by simp [bytesLE]⟩

theorem setAutoShutoff (seconds : Word32) : Statement (.setAutoShutoff seconds) := fun _ =>
  ⟨rfl, _, rfl, by simp [bytesLE]⟩

theorem getBusState : Statement .getBusState := fun _ =>
  ⟨rfl, _, rfl, by simp⟩

theorem getDevice (a : Byte) : Statement (.getDevice a) := fun _ =>
  ⟨rfl, _, rfl, by simp⟩

theorem getRuntimeHours : Statement .getRuntimeHours := fun _ =>
  ⟨rfl, _, rfl, by simp⟩

theorem getPercentLeft : Statement .getPercentLeft := fun _ =>
  ⟨rfl, _, rfl, by simp⟩

theorem getHeartbeatDue : Statement .getHeartbeatDue := fun _ =>
  ⟨rfl, _, rfl, by simp⟩

theorem rebind : Statement .rebind := fun _ =>
  ⟨rfl, _, rfl, by simp⟩

theorem loadSettings (bytes : List Byte) : Statement (.loadSettings bytes) := fun _ =>
  ⟨rfl, 0, rfl, by simp⟩

end EncodesItsKind

end Sys2Proof.Laws
end

