-- ==== Sys2Proof/Laws/Procedures.lean ====
section
/-! SUPPORT. What the procedures' continuations leave alone: between two waits the scheduler moves SEQ,
TXBUF, the wait registers, the streak, the bus state, the save point and the result, and never the
deframer, DIR, POWER, the registry, the inputs or the diagnostic port. -/

namespace Sys2Proof.Machine

variable (s : State) (i : Nat)

theorem State.loopFrom_deframer {s : State} (l : Line) (i : Nat) (done : State → State)
    (h : (done s).deframer = s.deframer) : (s.loopFrom l i done).deframer = s.deframer := by
  unfold State.loopFrom; split
  · simp
  · exact h
theorem State.loopFrom_dir {s : State} (l : Line) (i : Nat) (done : State → State)
    (h : (done s).dir = s.dir) : (s.loopFrom l i done).dir = s.dir := by
  unfold State.loopFrom; split
  · simp
  · exact h
theorem State.loopFrom_power {s : State} (l : Line) (i : Nat) (done : State → State)
    (h : (done s).power = s.power) : (s.loopFrom l i done).power = s.power := by
  unfold State.loopFrom; split
  · simp
  · exact h
theorem State.loopFrom_reg {s : State} (l : Line) (i : Nat) (done : State → State)
    (h : (done s).reg = s.reg) : (s.loopFrom l i done).reg = s.reg := by
  unfold State.loopFrom; split
  · simp
  · exact h
theorem State.loopFrom_now {s : State} (l : Line) (i : Nat) (done : State → State)
    (h : (done s).now = s.now) : (s.loopFrom l i done).now = s.now := by
  unfold State.loopFrom; split
  · simp
  · exact h
theorem State.loopFrom_cfgOk {s : State} (l : Line) (i : Nat) (done : State → State)
    (h : (done s).cfgOk = s.cfgOk) : (s.loopFrom l i done).cfgOk = s.cfgOk := by
  unfold State.loopFrom; split
  · simp
  · exact h
theorem State.loopFrom_inputs {s : State} (l : Line) (i : Nat) (done : State → State)
    (h : (done s).inputs = s.inputs) : (s.loopFrom l i done).inputs = s.inputs := by
  unfold State.loopFrom; split
  · simp
  · exact h
theorem State.loopFrom_params {s : State} (l : Line) (i : Nat) (done : State → State)
    (h : (done s).params = s.params) : (s.loopFrom l i done).params = s.params := by
  unfold State.loopFrom; split
  · simp
  · exact h
theorem State.loopFrom_txLog {s : State} (l : Line) (i : Nat) (done : State → State)
    (h : (done s).txLog = s.txLog) : (s.loopFrom l i done).txLog = s.txLog := by
  unfold State.loopFrom; split
  · simp
  · exact h
theorem State.loopFrom_firstWrite {s : State} (l : Line) (i : Nat) (done : State → State)
    (h : (done s).firstWrite = s.firstWrite) : (s.loopFrom l i done).firstWrite = s.firstWrite := by
  unfold State.loopFrom; split
  · simp
  · exact h
theorem State.loopFrom_diagLog {s : State} (l : Line) (i : Nat) (done : State → State)
    (h : (done s).diagLog = s.diagLog) : (s.loopFrom l i done).diagLog = s.diagLog := by
  unfold State.loopFrom; split
  · simp
  · exact h

@[simp] theorem State.endPowerOn_deframer : (s.endPowerOn).deframer = s.deframer := by
  simp [State.endPowerOn]
@[simp] theorem State.endPowerOn_dir : (s.endPowerOn).dir = s.dir := by
  simp [State.endPowerOn]
@[simp] theorem State.endPowerOn_power : (s.endPowerOn).power = s.power := by
  simp [State.endPowerOn]
@[simp] theorem State.endPowerOn_reg : (s.endPowerOn).reg = s.reg := by
  simp [State.endPowerOn]
@[simp] theorem State.endPowerOn_now : (s.endPowerOn).now = s.now := by
  simp [State.endPowerOn]
@[simp] theorem State.endPowerOn_cfgOk : (s.endPowerOn).cfgOk = s.cfgOk := by
  simp [State.endPowerOn]
@[simp] theorem State.endPowerOn_inputs : (s.endPowerOn).inputs = s.inputs := by
  simp [State.endPowerOn]
@[simp] theorem State.endPowerOn_params : (s.endPowerOn).params = s.params := by
  simp [State.endPowerOn]
@[simp] theorem State.endPowerOn_txLog : (s.endPowerOn).txLog = s.txLog := by
  simp [State.endPowerOn]
@[simp] theorem State.endPowerOn_firstWrite : (s.endPowerOn).firstWrite = s.firstWrite := by
  simp [State.endPowerOn]
@[simp] theorem State.endPowerOn_diagLog : (s.endPowerOn).diagLog = s.diagLog := by
  simp [State.endPowerOn]

@[simp] theorem State.pass2From_deframer : (s.pass2From i).deframer = s.deframer := by
  exact State.loopFrom_deframer _ _ _ (by simp)
@[simp] theorem State.pass2From_dir : (s.pass2From i).dir = s.dir := by
  exact State.loopFrom_dir _ _ _ (by simp)
@[simp] theorem State.pass2From_power : (s.pass2From i).power = s.power := by
  exact State.loopFrom_power _ _ _ (by simp)
@[simp] theorem State.pass2From_reg : (s.pass2From i).reg = s.reg := by
  exact State.loopFrom_reg _ _ _ (by simp)
@[simp] theorem State.pass2From_now : (s.pass2From i).now = s.now := by
  exact State.loopFrom_now _ _ _ (by simp)
@[simp] theorem State.pass2From_cfgOk : (s.pass2From i).cfgOk = s.cfgOk := by
  exact State.loopFrom_cfgOk _ _ _ (by simp)
@[simp] theorem State.pass2From_inputs : (s.pass2From i).inputs = s.inputs := by
  exact State.loopFrom_inputs _ _ _ (by simp)
@[simp] theorem State.pass2From_params : (s.pass2From i).params = s.params := by
  exact State.loopFrom_params _ _ _ (by simp)
@[simp] theorem State.pass2From_txLog : (s.pass2From i).txLog = s.txLog := by
  exact State.loopFrom_txLog _ _ _ (by simp)
@[simp] theorem State.pass2From_firstWrite : (s.pass2From i).firstWrite = s.firstWrite := by
  exact State.loopFrom_firstWrite _ _ _ (by simp)
@[simp] theorem State.pass2From_diagLog : (s.pass2From i).diagLog = s.diagLog := by
  exact State.loopFrom_diagLog _ _ _ (by simp)

@[simp] theorem State.pass1From_deframer : (s.pass1From i).deframer = s.deframer := by
  exact State.loopFrom_deframer _ _ _ (by simp)
@[simp] theorem State.pass1From_dir : (s.pass1From i).dir = s.dir := by
  exact State.loopFrom_dir _ _ _ (by simp)
@[simp] theorem State.pass1From_power : (s.pass1From i).power = s.power := by
  exact State.loopFrom_power _ _ _ (by simp)
@[simp] theorem State.pass1From_reg : (s.pass1From i).reg = s.reg := by
  exact State.loopFrom_reg _ _ _ (by simp)
@[simp] theorem State.pass1From_now : (s.pass1From i).now = s.now := by
  exact State.loopFrom_now _ _ _ (by simp)
@[simp] theorem State.pass1From_cfgOk : (s.pass1From i).cfgOk = s.cfgOk := by
  exact State.loopFrom_cfgOk _ _ _ (by simp)
@[simp] theorem State.pass1From_inputs : (s.pass1From i).inputs = s.inputs := by
  exact State.loopFrom_inputs _ _ _ (by simp)
@[simp] theorem State.pass1From_params : (s.pass1From i).params = s.params := by
  exact State.loopFrom_params _ _ _ (by simp)
@[simp] theorem State.pass1From_txLog : (s.pass1From i).txLog = s.txLog := by
  exact State.loopFrom_txLog _ _ _ (by simp)
@[simp] theorem State.pass1From_firstWrite : (s.pass1From i).firstWrite = s.firstWrite := by
  exact State.loopFrom_firstWrite _ _ _ (by simp)
@[simp] theorem State.pass1From_diagLog : (s.pass1From i).diagLog = s.diagLog := by
  exact State.loopFrom_diagLog _ _ _ (by simp)

@[simp] theorem State.enterWarmUp_deframer : (s.enterWarmUp).deframer = s.deframer := by
  simp [State.enterWarmUp]
@[simp] theorem State.enterWarmUp_dir : (s.enterWarmUp).dir = s.dir := by
  simp [State.enterWarmUp]
@[simp] theorem State.enterWarmUp_power : (s.enterWarmUp).power = s.power := by
  simp [State.enterWarmUp]
@[simp] theorem State.enterWarmUp_reg : (s.enterWarmUp).reg = s.reg := by
  simp [State.enterWarmUp]
@[simp] theorem State.enterWarmUp_now : (s.enterWarmUp).now = s.now := by
  simp [State.enterWarmUp]
@[simp] theorem State.enterWarmUp_cfgOk : (s.enterWarmUp).cfgOk = s.cfgOk := by
  simp [State.enterWarmUp]
@[simp] theorem State.enterWarmUp_inputs : (s.enterWarmUp).inputs = s.inputs := by
  simp [State.enterWarmUp]
@[simp] theorem State.enterWarmUp_params : (s.enterWarmUp).params = s.params := by
  simp [State.enterWarmUp]
@[simp] theorem State.enterWarmUp_txLog : (s.enterWarmUp).txLog = s.txLog := by
  simp [State.enterWarmUp]
@[simp] theorem State.enterWarmUp_firstWrite : (s.enterWarmUp).firstWrite = s.firstWrite := by
  simp [State.enterWarmUp]
@[simp] theorem State.enterWarmUp_diagLog : (s.enterWarmUp).diagLog = s.diagLog := by
  simp [State.enterWarmUp]

@[simp] theorem State.retrieveFrom_deframer : (s.retrieveFrom i).deframer = s.deframer := by
  unfold State.retrieveFrom; split
  · split <;> simp
  · simp
@[simp] theorem State.retrieveFrom_dir : (s.retrieveFrom i).dir = s.dir := by
  unfold State.retrieveFrom; split
  · split <;> simp
  · simp
@[simp] theorem State.retrieveFrom_power : (s.retrieveFrom i).power = s.power := by
  unfold State.retrieveFrom; split
  · split <;> simp
  · simp
@[simp] theorem State.retrieveFrom_reg : (s.retrieveFrom i).reg = s.reg := by
  unfold State.retrieveFrom; split
  · split <;> simp
  · simp
@[simp] theorem State.retrieveFrom_now : (s.retrieveFrom i).now = s.now := by
  unfold State.retrieveFrom; split
  · split <;> simp
  · simp
@[simp] theorem State.retrieveFrom_cfgOk : (s.retrieveFrom i).cfgOk = s.cfgOk := by
  unfold State.retrieveFrom; split
  · split <;> simp
  · simp
@[simp] theorem State.retrieveFrom_inputs : (s.retrieveFrom i).inputs = s.inputs := by
  unfold State.retrieveFrom; split
  · split <;> simp
  · simp
@[simp] theorem State.retrieveFrom_params : (s.retrieveFrom i).params = s.params := by
  unfold State.retrieveFrom; split
  · split <;> simp
  · simp
@[simp] theorem State.retrieveFrom_txLog : (s.retrieveFrom i).txLog = s.txLog := by
  unfold State.retrieveFrom; split
  · split <;> simp
  · simp
@[simp] theorem State.retrieveFrom_firstWrite : (s.retrieveFrom i).firstWrite = s.firstWrite := by
  unfold State.retrieveFrom; split
  · split <;> simp
  · simp
@[simp] theorem State.retrieveFrom_diagLog : (s.retrieveFrom i).diagLog = s.diagLog := by
  unfold State.retrieveFrom; split
  · split <;> simp
  · simp

@[simp] theorem State.discoveryLoop_deframer : (s.discoveryLoop).deframer = s.deframer := by
  unfold State.discoveryLoop; split <;> simp
@[simp] theorem State.discoveryLoop_dir : (s.discoveryLoop).dir = s.dir := by
  unfold State.discoveryLoop; split <;> simp
@[simp] theorem State.discoveryLoop_power : (s.discoveryLoop).power = s.power := by
  unfold State.discoveryLoop; split <;> simp
@[simp] theorem State.discoveryLoop_reg : (s.discoveryLoop).reg = s.reg := by
  unfold State.discoveryLoop; split <;> simp
@[simp] theorem State.discoveryLoop_now : (s.discoveryLoop).now = s.now := by
  unfold State.discoveryLoop; split <;> simp
@[simp] theorem State.discoveryLoop_cfgOk : (s.discoveryLoop).cfgOk = s.cfgOk := by
  unfold State.discoveryLoop; split <;> simp
@[simp] theorem State.discoveryLoop_inputs : (s.discoveryLoop).inputs = s.inputs := by
  unfold State.discoveryLoop; split <;> simp
@[simp] theorem State.discoveryLoop_params : (s.discoveryLoop).params = s.params := by
  unfold State.discoveryLoop; split <;> simp
@[simp] theorem State.discoveryLoop_txLog : (s.discoveryLoop).txLog = s.txLog := by
  unfold State.discoveryLoop; split <;> simp
@[simp] theorem State.discoveryLoop_firstWrite : (s.discoveryLoop).firstWrite = s.firstWrite := by
  unfold State.discoveryLoop; split <;> simp
@[simp] theorem State.discoveryLoop_diagLog : (s.discoveryLoop).diagLog = s.diagLog := by
  unfold State.discoveryLoop; split <;> simp

@[simp] theorem State.productive_deframer : (s.productive).deframer = s.deframer := by
  simp [State.productive]
@[simp] theorem State.productive_dir : (s.productive).dir = s.dir := by
  simp [State.productive]
@[simp] theorem State.productive_power : (s.productive).power = s.power := by
  simp [State.productive]
@[simp] theorem State.productive_reg : (s.productive).reg = s.reg := by
  simp [State.productive]
@[simp] theorem State.productive_now : (s.productive).now = s.now := by
  simp [State.productive]
@[simp] theorem State.productive_cfgOk : (s.productive).cfgOk = s.cfgOk := by
  simp [State.productive]
@[simp] theorem State.productive_inputs : (s.productive).inputs = s.inputs := by
  simp [State.productive]
@[simp] theorem State.productive_params : (s.productive).params = s.params := by
  simp [State.productive]
@[simp] theorem State.productive_txLog : (s.productive).txLog = s.txLog := by
  simp [State.productive]
@[simp] theorem State.productive_firstWrite : (s.productive).firstWrite = s.firstWrite := by
  simp [State.productive]
@[simp] theorem State.productive_diagLog : (s.productive).diagLog = s.diagLog := by
  simp [State.productive]

@[simp] theorem State.unproductive_deframer : (s.unproductive).deframer = s.deframer := by
  simp [State.unproductive]
@[simp] theorem State.unproductive_dir : (s.unproductive).dir = s.dir := by
  simp [State.unproductive]
@[simp] theorem State.unproductive_power : (s.unproductive).power = s.power := by
  simp [State.unproductive]
@[simp] theorem State.unproductive_reg : (s.unproductive).reg = s.reg := by
  simp [State.unproductive]
@[simp] theorem State.unproductive_now : (s.unproductive).now = s.now := by
  simp [State.unproductive]
@[simp] theorem State.unproductive_cfgOk : (s.unproductive).cfgOk = s.cfgOk := by
  simp [State.unproductive]
@[simp] theorem State.unproductive_inputs : (s.unproductive).inputs = s.inputs := by
  simp [State.unproductive]
@[simp] theorem State.unproductive_params : (s.unproductive).params = s.params := by
  simp [State.unproductive]
@[simp] theorem State.unproductive_txLog : (s.unproductive).txLog = s.txLog := by
  simp [State.unproductive]
@[simp] theorem State.unproductive_firstWrite : (s.unproductive).firstWrite = s.firstWrite := by
  simp [State.unproductive]
@[simp] theorem State.unproductive_diagLog : (s.unproductive).diagLog = s.diagLog := by
  simp [State.unproductive]

@[simp] theorem State.endWarmUpFrom_deframer : (s.endWarmUpFrom i).deframer = s.deframer := by
  exact State.loopFrom_deframer _ _ _ (by simp)
@[simp] theorem State.endWarmUpFrom_dir : (s.endWarmUpFrom i).dir = s.dir := by
  exact State.loopFrom_dir _ _ _ (by simp)
@[simp] theorem State.endWarmUpFrom_power : (s.endWarmUpFrom i).power = s.power := by
  exact State.loopFrom_power _ _ _ (by simp)
@[simp] theorem State.endWarmUpFrom_reg : (s.endWarmUpFrom i).reg = s.reg := by
  exact State.loopFrom_reg _ _ _ (by simp)
@[simp] theorem State.endWarmUpFrom_now : (s.endWarmUpFrom i).now = s.now := by
  exact State.loopFrom_now _ _ _ (by simp)
@[simp] theorem State.endWarmUpFrom_cfgOk : (s.endWarmUpFrom i).cfgOk = s.cfgOk := by
  exact State.loopFrom_cfgOk _ _ _ (by simp)
@[simp] theorem State.endWarmUpFrom_inputs : (s.endWarmUpFrom i).inputs = s.inputs := by
  exact State.loopFrom_inputs _ _ _ (by simp)
@[simp] theorem State.endWarmUpFrom_params : (s.endWarmUpFrom i).params = s.params := by
  exact State.loopFrom_params _ _ _ (by simp)
@[simp] theorem State.endWarmUpFrom_txLog : (s.endWarmUpFrom i).txLog = s.txLog := by
  exact State.loopFrom_txLog _ _ _ (by simp)
@[simp] theorem State.endWarmUpFrom_firstWrite : (s.endWarmUpFrom i).firstWrite = s.firstWrite := by
  exact State.loopFrom_firstWrite _ _ _ (by simp)
@[simp] theorem State.endWarmUpFrom_diagLog : (s.endWarmUpFrom i).diagLog = s.diagLog := by
  exact State.loopFrom_diagLog _ _ _ (by simp)

@[simp] theorem State.aggregate_deframer : (s.aggregate).deframer = s.deframer := by
  unfold State.aggregate; split
  · split <;> simp
  · simp
@[simp] theorem State.aggregate_dir : (s.aggregate).dir = s.dir := by
  unfold State.aggregate; split
  · split <;> simp
  · simp
@[simp] theorem State.aggregate_power : (s.aggregate).power = s.power := by
  unfold State.aggregate; split
  · split <;> simp
  · simp
@[simp] theorem State.aggregate_reg : (s.aggregate).reg = s.reg := by
  unfold State.aggregate; split
  · split <;> simp
  · simp
@[simp] theorem State.aggregate_now : (s.aggregate).now = s.now := by
  unfold State.aggregate; split
  · split <;> simp
  · simp
@[simp] theorem State.aggregate_cfgOk : (s.aggregate).cfgOk = s.cfgOk := by
  unfold State.aggregate; split
  · split <;> simp
  · simp
@[simp] theorem State.aggregate_inputs : (s.aggregate).inputs = s.inputs := by
  unfold State.aggregate; split
  · split <;> simp
  · simp
@[simp] theorem State.aggregate_params : (s.aggregate).params = s.params := by
  unfold State.aggregate; split
  · split <;> simp
  · simp
@[simp] theorem State.aggregate_txLog : (s.aggregate).txLog = s.txLog := by
  unfold State.aggregate; split
  · split <;> simp
  · simp
@[simp] theorem State.aggregate_firstWrite : (s.aggregate).firstWrite = s.firstWrite := by
  unfold State.aggregate; split
  · split <;> simp
  · simp
@[simp] theorem State.aggregate_diagLog : (s.aggregate).diagLog = s.diagLog := by
  unfold State.aggregate; split
  · split <;> simp
  · simp

@[simp] theorem State.heartbeatFrom_deframer : (s.heartbeatFrom i).deframer = s.deframer := by
  exact State.loopFrom_deframer _ _ _ (by simp)
@[simp] theorem State.heartbeatFrom_dir : (s.heartbeatFrom i).dir = s.dir := by
  exact State.loopFrom_dir _ _ _ (by simp)
@[simp] theorem State.heartbeatFrom_power : (s.heartbeatFrom i).power = s.power := by
  exact State.loopFrom_power _ _ _ (by simp)
@[simp] theorem State.heartbeatFrom_reg : (s.heartbeatFrom i).reg = s.reg := by
  exact State.loopFrom_reg _ _ _ (by simp)
@[simp] theorem State.heartbeatFrom_now : (s.heartbeatFrom i).now = s.now := by
  exact State.loopFrom_now _ _ _ (by simp)
@[simp] theorem State.heartbeatFrom_cfgOk : (s.heartbeatFrom i).cfgOk = s.cfgOk := by
  exact State.loopFrom_cfgOk _ _ _ (by simp)
@[simp] theorem State.heartbeatFrom_inputs : (s.heartbeatFrom i).inputs = s.inputs := by
  exact State.loopFrom_inputs _ _ _ (by simp)
@[simp] theorem State.heartbeatFrom_params : (s.heartbeatFrom i).params = s.params := by
  exact State.loopFrom_params _ _ _ (by simp)
@[simp] theorem State.heartbeatFrom_txLog : (s.heartbeatFrom i).txLog = s.txLog := by
  exact State.loopFrom_txLog _ _ _ (by simp)
@[simp] theorem State.heartbeatFrom_firstWrite : (s.heartbeatFrom i).firstWrite = s.firstWrite := by
  exact State.loopFrom_firstWrite _ _ _ (by simp)
@[simp] theorem State.heartbeatFrom_diagLog : (s.heartbeatFrom i).diagLog = s.diagLog := by
  exact State.loopFrom_diagLog _ _ _ (by simp)

@[simp] theorem State.brightnessFrom_deframer : (s.brightnessFrom i).deframer = s.deframer := by
  exact State.loopFrom_deframer _ _ _ (by simp)
@[simp] theorem State.brightnessFrom_dir : (s.brightnessFrom i).dir = s.dir := by
  exact State.loopFrom_dir _ _ _ (by simp)
@[simp] theorem State.brightnessFrom_power : (s.brightnessFrom i).power = s.power := by
  exact State.loopFrom_power _ _ _ (by simp)
@[simp] theorem State.brightnessFrom_reg : (s.brightnessFrom i).reg = s.reg := by
  exact State.loopFrom_reg _ _ _ (by simp)
@[simp] theorem State.brightnessFrom_now : (s.brightnessFrom i).now = s.now := by
  exact State.loopFrom_now _ _ _ (by simp)
@[simp] theorem State.brightnessFrom_cfgOk : (s.brightnessFrom i).cfgOk = s.cfgOk := by
  exact State.loopFrom_cfgOk _ _ _ (by simp)
@[simp] theorem State.brightnessFrom_inputs : (s.brightnessFrom i).inputs = s.inputs := by
  exact State.loopFrom_inputs _ _ _ (by simp)
@[simp] theorem State.brightnessFrom_params : (s.brightnessFrom i).params = s.params := by
  exact State.loopFrom_params _ _ _ (by simp)
@[simp] theorem State.brightnessFrom_txLog : (s.brightnessFrom i).txLog = s.txLog := by
  exact State.loopFrom_txLog _ _ _ (by simp)
@[simp] theorem State.brightnessFrom_firstWrite : (s.brightnessFrom i).firstWrite = s.firstWrite := by
  exact State.loopFrom_firstWrite _ _ _ (by simp)
@[simp] theorem State.brightnessFrom_diagLog : (s.brightnessFrom i).diagLog = s.diagLog := by
  exact State.loopFrom_diagLog _ _ _ (by simp)

end Sys2Proof.Machine
end

