-- ==== Sys2Proof/Tests/Slice0.lean ====
section
/-! SUPPORT. The model's own tests. Expected values come from `95_test_vectors.md` (the section or the
vector id is named) or are written out from the rule named; none is the model's own answer. -/

namespace Sys2Proof.Tests

open Sys2Proof Sys2Proof.Machine

/-! ## WellFormed refuses -/

/-- R97, R122: SetAddress takes 0x01..0x1F. -/
theorem test_wellFormed_setAddress : Instr.wellFormed (.setAddress 0) = false := by decide

/-- R97, R122: StartupAck takes 0x01..0x1F. -/
theorem test_wellFormed_startupAck :
    Instr.wellFormed (.startupAck 0 #v[1, 2, 3, 4, 5, 6, 7]) = false := by decide

/-- R97, R122: a level is at most 100. -/
theorem test_wellFormed_level : Instr.wellFormed (.ledBrightness 1 101) = false
    ∧ Instr.wellFormed (.ledBrightnessStartup 1 101) = false := by decide

/-- R50: the command port has 14 argument bytes. -/
theorem test_wellFormed_record : Instr.wellFormed (.loadSettings (List.replicate 15 0)) = false := by
  decide

/-! ## Decoding: one word per constructor

Frames as section 3.1 prints them; commands from the codes of R111, arguments zero beyond the table's 8
bits. -/

theorem test_decode_discover : decodeTableWord 88 0xAA82070000000000000000
    = some (.discover) := by decide

theorem test_decode_powerUp : decodeTableWord 88 0xAA81010000000000000000
    = some (.powerUp) := by decide

theorem test_decode_powerDown : decodeTableWord 88 0xAA81020000000000000000
    = some (.powerDown) := by decide

theorem test_decode_heartbeat : decodeTableWord 88 0xAA05100000000000000000
    = some (.heartbeat 5) := by decide

theorem test_decode_ledOnConfirm : decodeTableWord 88 0xAA05220000000000000000
    = some (.ledOnConfirm 5) := by decide

theorem test_decode_serialRequest1 : decodeTableWord 88 0xAA05110000000000000000
    = some (.serialRequest1 5) := by decide

theorem test_decode_serialRequest2 : decodeTableWord 88 0xAA05120000000000000000
    = some (.serialRequest2 5) := by decide

theorem test_decode_warmup : decodeTableWord 88 0xAA05200000000000000000
    = some (.warmup 5) := by decide

theorem test_decode_warmupComplete : decodeTableWord 88 0xAA05210000000000000000
    = some (.warmupComplete 5) := by decide

theorem test_decode_setAddress : decodeTableWord 88 0xAA82080100000000000000
    = some (.setAddress 1) := by decide

theorem test_decode_ledBrightness : decodeTableWord 88 0xAA05302700000000000000
    = some (.ledBrightness 5 39) := by decide

theorem test_decode_ledBrightnessStartup : decodeTableWord 88 0xAA05316400000000000000
    = some (.ledBrightnessStartup 5 100) := by decide

theorem test_decode_color : decodeTableWord 88 0xAA8E3303D5FF0000000000
    = some (.color 0x03 0xD5 0xFF) := by decide

theorem test_decode_colorStartup : decodeTableWord 88 0xAA1F3203D5FF0000000000
    = some (.colorStartup 0x1F 0x03 0xD5 0xFF) := by decide

theorem test_decode_colorConfirm : decodeTableWord 88 0xAA8E340000000000000000
    = some (.colorConfirm) := by decide

theorem test_decode_startupComplete : decodeTableWord 88 0xAA00230000000000000000
    = some (.startupComplete 0) := by decide

theorem test_decode_startupAck : decodeTableWord 88 0xAA8007050503F2000A0389
    = some (.startupAck 5 #v[5, 3, 0xF2, 0, 0x0A, 3, 0x89]) := by decide

theorem test_decode_startupAckUnaddressed : decodeTableWord 88 0xAA8007000503F2000A0389
    = some (.startupAckUnaddressed #v[5, 3, 0xF2, 0, 0x0A, 3, 0x89]) := by decide

theorem test_decode_serialReply1 : decodeTableWord 88 0xAA80115443323441303031
    = some (.serialReply1 #v[0x54, 0x43, 0x32, 0x34, 0x41, 0x30, 0x30, 0x31]) := by decide

theorem test_decode_serialReply2 : decodeTableWord 88 0xAA801239383700FF7F207E
    = some (.serialReply2 #v[0x39, 0x38, 0x37, 0, 0xFF, 0x7F, 0x20, 0x7E]) := by decide

theorem test_decode_warmupAck : decodeTableWord 88 0xAA80200500000000000000
    = some (.warmupAck 5) := by decide

theorem test_decode_warmupCompleteAck : decodeTableWord 88 0xAA80210500000000000000
    = some (.warmupCompleteAck 5) := by decide

theorem test_decode_heartbeatRunning : decodeTableWord 88 0xAA80100500000000000000
    = some (.heartbeatRunning 5) := by decide

theorem test_decode_ledBrightnessAck : decodeTableWord 88 0xAA80300500000000000000
    = some (.ledBrightnessAck 5) := by decide

theorem test_decode_ledBrightnessAckStartup : decodeTableWord 88 0xAA80310500000000000000
    = some (.ledBrightnessAckStartup 5) := by decide

theorem test_decode_colorStartupAck : decodeTableWord 88 0xAA80320500000000000000
    = some (.colorStartupAck 5) := by decide

theorem test_decode_ledOnAck : decodeTableWord 88 0xAA80220500000000000000
    = some (.ledOnAck 5) := by decide

theorem test_decode_startupCompleteAck : decodeTableWord 88 0xAA80230500000000000000
    = some (.startupCompleteAck 5) := by decide

theorem test_decode_powerOn : decodeTableWord 8 0x01 = some (.powerOn) := by decide

theorem test_decode_powerOff : decodeTableWord 8 0x02 = some (.powerOff) := by decide

theorem test_decode_heartbeatPoll : decodeTableWord 8 0x03 = some (.heartbeatPoll) := by decide

theorem test_decode_saveRuntime : decodeTableWord 8 0x04 = some (.saveRuntime) := by decide

theorem test_decode_setRGB : decodeTableWord 8 0x10 = some (.setRGB 0 0 0) := by decide

theorem test_decode_setBrightness : decodeTableWord 8 0x11 = some (.setBrightness 0) := by decide

theorem test_decode_setWarnAt : decodeTableWord 8 0x12 = some (.setWarnAt 0) := by decide

theorem test_decode_setAutoShutoff : decodeTableWord 8 0x13 = some (.setAutoShutoff 0) := by decide

theorem test_decode_loadSettings : decodeTableWord 8 0x14 = some (.loadSettings (List.replicate 14 0)) := by decide

theorem test_decode_getBusState : decodeTableWord 8 0x20 = some (.getBusState) := by decide

theorem test_decode_getDevice : decodeTableWord 8 0x21 = some (.getDevice 0) := by decide

theorem test_decode_getRuntimeHours : decodeTableWord 8 0x22 = some (.getRuntimeHours) := by decide

theorem test_decode_getPercentLeft : decodeTableWord 8 0x23 = some (.getPercentLeft) := by decide

theorem test_decode_getHeartbeatDue : decodeTableWord 8 0x24 = some (.getHeartbeatDue) := by decide

theorem test_decode_rebind : decodeTableWord 8 0x30 = some (.rebind) := by decide

/-- A command with its argument bytes (the code and the bytes as R111 lays them out). -/
def cmd (op : Byte) (arg : List Byte) : Cmd :=
  { op := op, arg := argBytes arg, len := BitVec.ofNat 4 arg.length }

/-- R111: arguments in order, multi-byte ones little-endian (0x00054C90 is 347280). -/
theorem test_decode_arguments :
    decodeCmd (cmd 0x10 [0xFF, 0x00, 0x10]) = .ok (.setRGB 0xFF 0x00 0x10)
    ∧ decodeCmd (cmd 0x11 [0xFE]) = .ok (.setBrightness 0xFE)
    ∧ decodeCmd (cmd 0x12 [0x90, 0x4C, 0x05, 0x00]) = .ok (.setWarnAt 347280)
    ∧ decodeCmd (cmd 0x13 [0x60, 0xEA, 0x00, 0x00]) = .ok (.setAutoShutoff 60000)
    ∧ decodeCmd (cmd 0x21 [0x20]) = .ok (.getDevice 0x20)
    ∧ decodeCmd (cmd 0x14 [1, 2, 3]) = .ok (.loadSettings [1, 2, 3]) := by decide

/-- R234: an unlisted code and a short command. -/
theorem test_decode_bad : decodeCmd (cmd 0x05 []) = .error (.badCommand 0x05)
    ∧ decodeCmd (cmd 0x10 [1, 2]) = .error (.badCommand 0x10)
    ∧ decodeCmd (cmd 0x12 [1, 2, 3]) = .error (.badCommand 0x12)
    ∧ decodeCmd (cmd 0x21 []) = .error (.badCommand 0x21) := by decide

/-! ## The codec: sections 3.2 to 3.4 -/

/-- Section 3.2: every refused build. -/
theorem test_build_refused :
    build .unknown { } = none ∧ build .heartbeat { addr := some 0x20 } = none
    ∧ build .setAddress { addr := some 0 } = none ∧ build .setAddress { addr := some 0x20 } = none
    ∧ build .startupAck { addr := some 0 } = none
    ∧ build .ledBrightness { addr := some 1, level := some 101 } = none
    ∧ build .color { } = none := by decide


/-- Section 3.3: the corner cases of `classify`. -/
theorem test_classify_corners :
    classify (frameOfNat 0xAA8007200503F2000A0389) = .unknown
    ∧ classify (frameOfNat 0xAA80071F00000000000000) = .startupAck
    ∧ classify (frameOfNat 0xAB82070000000000000000) = .unknown
    ∧ classify (frameOfNat 0xAA82070000000000000001) = .unknown
    ∧ classify (frameOfNat 0xAA82070100000000000000) = .unknown
    ∧ classify (frameOfNat 0xAA20100000000000000000) = .unknown
    ∧ classify (frameOfNat 0xAA05100000000000000100) = .unknown
    ∧ classify (frameOfNat 0xAA0530FF00000000000000) = .ledBrightness
    ∧ classify (frameOfNat 0xAA05303201000000000000) = .unknown
    ∧ classify (frameOfNat 0xAA80102500000000000000) = .unknown
    ∧ classify (frameOfNat 0xAA80110000000000000000) = .serialReply1
    ∧ classify (frameOfNat 0xAA80130000000000000000) = .unknown
    ∧ classify (frameOfNat 0xAA8E33AABBCC0000000000) = .color
    ∧ classify (frameOfNat 0xAA8E330102030400000000) = .unknown
    ∧ classify (frameOfNat 0xAA82080000000000000000) = .setAddress
    ∧ classify (frameOfNat 0xAA82082000000000000000) = .unknown
    ∧ classify (frameOfNat 0x0000000000000000000000) = .unknown
    ∧ classify (frameOfNat 0xAAAAAAAAAAAAAAAAAAAAAA) = .unknown
    ∧ classify (frameOfNat 0xAA81030000000000000000) = .unknown := by
  decide

/-- Log 31: a parameter the kind does not take is not looked at. -/
theorem test_build_surplus :
    build .discover { addr := some 0xFF } = build .discover { }
    ∧ build .startupAckUnaddressed { addr := some 5 } = build .startupAckUnaddressed { } := by decide

/-- Log 32: one changed byte of Discover gives the kinds of R127, and with F[1] = 0x80 the frame of R144. -/
theorem test_classify_near_discover :
    classify (frameOfNat 0xAA80070000000000000000) = .startupAckUnaddressed
    ∧ classify (frameOfNat 0xAA82080000000000000000) = .setAddress
    ∧ classify (frameOfNat 0xAA81070000000000000000) = .unknown
    ∧ classify (frameOfNat 0xAA82070100000000000000) = .unknown := by decide

/-- Section 3.4: the printable filter and two serial fragments. -/
theorem test_printable :
    printable 31 = 0x2E ∧ printable 32 = 32 ∧ printable 126 = 126 ∧ printable 127 = 0x2E
    ∧ printable 0 = 0x2E ∧ printable 0xAA = 0x2E
    ∧ serialFragment (frameOfNat 0xAA8007050503F2000A0389) = Vector.replicate 8 0x2E
    ∧ serialFragment (frameOfNat 0xAA80115443323442303032)
      = #v[0x54, 0x43, 0x32, 0x34, 0x42, 0x30, 0x30, 0x32] := by decide

/-! ## The deframer: section 4 -/

/-- The deframer after reset. -/
def d0 : Deframer := State.reset.deframer

/-- The Discover frame of section 4. -/
def frameD : Frame := frameOfNat 0xAA82070000000000000000

/-- The HeartbeatRunning frame of section 4. -/
def frameH : Frame := frameOfNat 0xAA80100500000000000000


/-- Bytes two per millisecond from `t0`, then one poll at `t1`. -/
def stream (t0 : Word32) (bytes : List Byte) (t1 : Word32) : List (Word32 × Option Byte) :=
  (bytes.zipIdx.map fun p => (t0 + BitVec.ofNat 32 (p.2 / 2), some p.1)) ++ [(t1, none)]

/-- What a run emitted, what it raised, and the count it left. -/
def seen (r : Deframer × List Frame × List Diag) : List Frame × List Diag × BitVec 4 :=
  (r.2.1, r.2.2, r.1.cnt)

/-- S1 (example E1): emitted by the poll at 14 and not by the one at 13. -/
theorem test_deframer_S1 : seen (d0.run (stream 0 frameD.toList 14)) = ([frameD], [], 0)
    ∧ seen (d0.run (stream 0 frameD.toList 13)) = ([], [], 11) := by decide

theorem test_deframer_S2 : seen (d0.run (stream 0 (frameD.toList.take 10) 13))
    = ([], [⟨.partialFrame, 10⟩], 0) := by decide

theorem test_deframer_S3 : seen (d0.run (stream 0 ([0x00, 0x13] ++ frameD.toList) 15))
    = ([frameD], [⟨.noSync, 0⟩, ⟨.noSync, 0x13⟩], 0) := by decide

theorem test_deframer_S4 : seen (d0.run (stream 0 ([0xAA, 0x82, 0x07] ++ frameD.toList) 15))
    = ([frameD], [⟨.resync, 3⟩], 0) := by decide

theorem test_deframer_S5 : seen (d0.run (stream 0 (frameD.toList ++ frameH.toList) 19))
    = ([frameH], [⟨.overflow, 11⟩], 0) := by decide

theorem test_deframer_S6 : seen (d0.run (stream 0 (frameD.toList ++ [0x55]) 14))
    = ([], [⟨.overflow, 11⟩, ⟨.noSync, 0x55⟩], 0) := by decide

/-- S7a and S7b: a gap of exactly 8 ms does not split, one of 9 ms does. -/
theorem test_deframer_S7 :
    seen (d0.run ((stream 0 (frameD.toList.take 5) 9) ++ (stream 10 (frameD.toList.drop 5) 21)))
      = ([frameD], [], 0)
    ∧ seen (d0.run ((stream 0 (frameD.toList.take 5) 10) ++ (stream 11 (frameD.toList.drop 5) 22)))
      = ([], ⟨.partialFrame, 5⟩ :: List.replicate 6 ⟨.noSync, 0⟩, 0) := by decide

theorem test_deframer_S8 :
    seen (d0.run (stream 0 [0xAA, 0x8E, 0x33, 0xAA, 0x10, 0x20, 0, 0, 0, 0, 0] 14))
      = ([], [⟨.resync, 3⟩, ⟨.partialFrame, 8⟩], 0) := by decide

/-- S9: the first byte of the second frame closes the first one. -/
theorem test_deframer_S9 :
    seen (d0.run ((stream 0 frameD.toList 13) ++ (stream 14 frameH.toList 28)))
      = ([frameD, frameH], [], 0) := by decide

/-- S10: the gap across the wrap of NOW. -/
theorem test_deframer_S10 :
    seen (d0.run (stream (0 - 3) frameD.toList 11)) = ([frameD], [], 0)
    ∧ seen (d0.run (stream (0 - 3) frameD.toList 10)) = ([], [], 11) := by decide

/-! ## The registry: section 5 -/

/-- A present slot. -/
def dev (st : DevState) : Slot := { Slot.absent with present := true, state := st }

/-- The registry with the slots listed present. -/
def regWith (l : List Addr) (st : DevState) : Registry :=
  l.foldl (fun r a => r.write a fun _ => dev st) State.reset.reg

theorem test_registry_firstFree :
    State.reset.reg.firstFree = 1 ∧ (regWith [1, 2, 4] .active).firstFree = 3
    ∧ (regWith [0, 1, 2, 4] .active).firstFree = 3
    ∧ Registry.firstFree (Vector.replicate 32 (dev .active)) = 0x20
    ∧ (Registry.write (Vector.replicate 32 (dev .active)) 0x1F fun _ => Slot.absent).firstFree = 0x1F := by
  decide

theorem test_registry_find : State.reset.reg.find 5 = none ∧ (regWith [5] .active).find 5 = some 5
    ∧ (regWith [5] .active).find 0xFF = none := by decide

theorem test_registry_getOrCreate :
    State.reset.reg.getOrCreate 5 = (regWith [5] .offline, some 5)
    ∧ (regWith [5] .active).getOrCreate 5 = (regWith [5] .active, some 5)
    ∧ (regWith [5] .active).getOrCreate 0x20 = (regWith [5] .active, none) := by decide

/-! ## Settings and accounting: section 7 -/

theorem test_levelOf : levelOf 0 = 0 ∧ levelOf 1 = 0 ∧ levelOf 2 = 1 ∧ levelOf 50 = 20
    ∧ levelOf 100 = 39 ∧ levelOf 128 = 50 ∧ levelOf 200 = 79 ∧ levelOf 254 = 100 := by decide

theorem test_percentLeft : percentLeft 0 349200 = 100 ∧ percentLeft 1 349200 = 99
    ∧ percentLeft 174600 349200 = 50 ∧ percentLeft 349199 349200 = 0
    ∧ percentLeft 400000 349200 = 0 ∧ percentLeft 5 0 = 100 ∧ percentLeft 2 3 = 33 := by decide

/-! ## Helper states -/

/-- The state a step ends in, `s` itself if it does not. -/
def after (s : State) (o : Host.Outcome State Fault Refusal) : State :=
  match o with
  | .next t => t
  | .fault _ => s
  | .refused _ => s

/-- The bus in state `b` with the devices `l` in state `st`, at NOW = 100000, saved at 40000. -/
def bus (b : BusState) (l : List Addr) (st : DevState) : State :=
  { State.reset with
    busState := b, power := true, now := 100000, saveT := 40000, hbLast := 90000
    reg := regWith l st }

/-- `s` with line `l` for slot `a` in phase `ph`, as a run leaves it. -/
def at_ (s : State) (l : Line) (a : Addr) (ph : Phase) : State :=
  { s with busy := true, dir := ph.transmitting, seq := .line l a ph
           txbuf := l.request a s.settings, waitT0 := 99000, waitTmo := 1000 }

/-- `s` with command `c` on the port in the next clock. -/
def given (s : State) (c : Cmd) : State := s.placeCommand c

/-! ## Commands: sections 7 and 8, programs P2 and P6 -/

/-- P2, command 1: POWER 1, BUS_STATE Powered. -/
theorem test_powerOn : (after State.reset (step (given State.reset (cmd 1 [])))).power = true
    ∧ (after State.reset (step (given State.reset (cmd 1 [])))).busState = .powered := by decide

/-- Section 8: WarmingUp, PowerOn gives AlreadyOn; Error gives Refused. -/
theorem test_powerOn_again :
    (after State.reset (exec .powerOn (bus .warmingUp [1] .active))).result = .alreadyOn
    ∧ (after State.reset (exec .powerOn (bus .error [1] .active))).result = .refused := by decide

/-- P2, command 8: the record saved, PowerDown in TXBUF, the bus not yet Offline. -/
theorem test_powerOff :
    (after State.reset (exec .powerOff (bus .repelling [1] .active))).saveLog
      = [#v[0x03, 0xD5, 0xFF, 0x64, 0x3C, 0, 0, 0, 0x10, 0x54, 0x05, 0, 0x50, 0x46]]
    ∧ (after State.reset (exec .powerOff (bus .repelling [1] .active))).txbuf
      = frameOfNat 0xAA81020000000000000000
    ∧ (after State.reset (exec .powerOff (bus .repelling [1] .active))).busState = .repelling := by
  decide

/-- P6: the configuration error while Repelling. -/
theorem test_configError :
    (after State.reset (exec .heartbeatPoll { bus .repelling [1] .active with cfgOk := false })).diagLog
      = [⟨.config, 3⟩]
    ∧ (after State.reset (exec .heartbeatPoll { bus .repelling [1] .active with cfgOk := false })).saveLog
      = [#v[0x03, 0xD5, 0xFF, 0x64, 0x3C, 0, 0, 0, 0x10, 0x54, 0x05, 0, 0x50, 0x46]] := by decide

/-- P3: the first Heartbeat goes to slot 1. -/
theorem test_heartbeatPoll :
    (after State.reset (exec .heartbeatPoll (bus .repelling [3, 1, 2] .active))).txbuf
      = frameOfNat 0xAA01100000000000000000 := by decide

/-- Section 7: 60 s accrue while Repelling, none while Offline. -/
theorem test_saveRuntime :
    (after State.reset (exec .saveRuntime (bus .repelling [] .active))).settings.activeS = 60
    ∧ (after State.reset (exec .saveRuntime (bus .offline [] .active))).settings.activeS = 0 := by
  decide

/-- Section 7: the sum saturates (ACTIVE_S = 2^32 - 2, 5 s). -/
theorem test_saveRuntime_saturates :
    satAdd 0xFFFFFFFE 5 = 0xFFFFFFFF ∧ elapsedSeconds 1500 (0 - 500) = 2 := by decide

/-- E3, and P2, command 6: the record and the Color frame. -/
theorem test_setRGB :
    (after State.reset (exec (.setRGB 0x03 0xD5 0xFF) State.reset)).result = .unchanged
    ∧ (after State.reset (exec (.setRGB 0xFF 0 0x10) (bus .repelling [1] .active))).saveLog
      = [#v[0xFF, 0x00, 0x10, 0x64, 0, 0, 0, 0, 0x10, 0x54, 0x05, 0, 0x50, 0x46]]
    ∧ (after State.reset (exec (.setRGB 0xFF 0 0x10) (bus .repelling [1] .active))).txbuf
      = frameOfNat 0xAA8E33FF00100000000000 := by decide

/-- Section 7, and P2, command 7: 255 is stored as 254; the level 100 goes out. -/
theorem test_setBrightness :
    (after State.reset (exec (.setBrightness 255) State.reset)).saveLog
      = [#v[0x03, 0xD5, 0xFF, 0xFE, 0, 0, 0, 0, 0x10, 0x54, 0x05, 0, 0x50, 0x46]]
    ∧ (after State.reset (exec (.setBrightness 254) (bus .repelling [1] .active))).txbuf
      = frameOfNat 0xAA01306400000000000000 := by decide

/-- Section 7: SetWarnAt(0) is Changed with its record. -/
theorem test_setWarnAt : (after State.reset (exec (.setWarnAt 0) State.reset)).saveLog
    = [#v[0x03, 0xD5, 0xFF, 0x64, 0, 0, 0, 0, 0, 0, 0, 0, 0x50, 0x46]] := by decide

/-- Section 7: 60000 becomes 18000, the value held; 57600 is taken. -/
theorem test_setAutoShutoff :
    (after State.reset (exec (.setAutoShutoff 60000) State.reset)).result = .unchanged
    ∧ (after State.reset (exec (.setAutoShutoff 57600) State.reset)).settings.autoShutoff = 57600 := by
  decide

/-- Section 7, second row of the LoadSettings table. -/
theorem test_loadSettings :
    (after State.reset (exec (.loadSettings
        [1, 2, 3, 0xFF, 0x20, 0x1C, 0, 0, 0, 0, 0, 0, 0x60, 0xEA]) State.reset)).settings
      = { red := 1, green := 2, blue := 3, bright := 254, activeS := 7200, warnAt := 0
          autoShutoff := 18000 } := by decide

/-- Section 7, third row: 13 bytes load the defaults. -/
theorem test_loadSettings_short :
    (after State.reset (exec (.loadSettings
        [1, 2, 3, 0xFF, 0x20, 0x1C, 0, 0, 0, 0, 0, 0, 0x60]) State.reset)).result = .defaults := by
  decide

/-- Section 8: GetBusState after reset, and in Repelling (R35). -/
theorem test_getBusState :
    (after State.reset (exec .getBusState State.reset)).result = .value (.number 0)
    ∧ (after State.reset (exec .getBusState (bus .repelling [] .active))).result
      = .value (.number 3) := by decide

/-- Section 8: GetDevice(0x20) after reset is all zero. -/
theorem test_getDevice :
    (after State.reset (exec (.getDevice 0x20) State.reset)).result = .value (.device Slot.absent)
    ∧ (after State.reset (exec (.getDevice 5) (bus .repelling [5] .active))).result
      = .value (.device (dev .active)) := by decide

/-- Section 7: 3649 s in flight are one hour. -/
theorem test_getRuntimeHours :
    (after State.reset (exec .getRuntimeHours
      { bus .repelling [] .active with now := 3649718, saveT := 430 })).result
      = .value (.number 1) := by decide

/-- P2, end: 98 percent after 3649 s. -/
theorem test_getPercentLeft :
    (after State.reset (exec .getPercentLeft
      { State.reset with settings := { Settings.defaults with activeS := 3649 } })).result
      = .value (.number 98) := by decide

/-- Section 8: due at 16000, not at 15999. -/
theorem test_getHeartbeatDue :
    (after State.reset (exec .getHeartbeatDue
      { bus .repelling [] .active with hbLast := 1000, now := 15999 })).result = .value (.number 0)
    ∧ (after State.reset (exec .getHeartbeatDue
      { bus .repelling [] .active with hbLast := 1000, now := 16000 })).result
      = .value (.number 1) := by decide

/-- Section 8: Rebind in Error. -/
theorem test_rebind :
    (after State.reset (exec .rebind
      { bus .error [] .active with deframer := { d0 with cnt := 7 } })).deframer.cnt = 0 := by decide

/-- Section 8: code 0x05 is BadCommand. -/
theorem test_badCommand :
    (after State.reset (step (given State.reset (cmd 5 [])))).result = .badCommand
    ∧ (after State.reset (step (given State.reset (cmd 5 [])))).diagLog = [⟨.badCmd, 5⟩] := by decide

/-! ## Frames: programs P1, P2, P5, P7 and section 6 -/

/-- A request goes out as it stands in TXBUF, with DIR 1 (R201). -/
theorem test_transmit :
    (after State.reset (step (at_ (bus .repelling [1] .active) .heartbeat 1 .transmitStart))).txLog
      = [(100000, frameOfNat 0xAA01100000000000000000)]
    ∧ (after State.reset (step (at_ (bus .repelling [1] .active) .heartbeat 1 .transmitStart))).dir
      = true := by decide

/-- P1, RX@24: slot 5 Inactive. -/
theorem test_startupAck :
    (after State.reset (exec (.startupAck 5 #v[5, 3, 0xF2, 0, 0x0A, 3, 0x89])
      (at_ (bus .powered [] .active) .discover 0 .answer))).reg = regWith [5] .inactive := by decide

/-- P1, RX@48: SetAddress(0x01) goes out. -/
theorem test_startupAckUnaddressed :
    (after State.reset (exec (.startupAckUnaddressed #v[5, 3, 0xF2, 0, 0x0A, 3, 0x89])
      (at_ (bus .powered [5] .inactive) .discover 0 .answer))).txbuf
      = frameOfNat 0xAA82080100000000000000 := by decide

/-- P2, RX@406: SER1, then SerialRequest2. -/
theorem test_serialReply1 :
    ((after State.reset (exec (.serialReply1 #v[0x54, 0x43, 0x32, 0x34, 0x42, 0x30, 0x30, 0x32])
      (at_ (bus .powered [1] .inactive) .serial1 1 .answer))).reg.slot 1).ser1
      = #v[0x54, 0x43, 0x32, 0x34, 0x42, 0x30, 0x30, 0x32]
    ∧ (after State.reset (exec (.serialReply1 #v[0x54, 0x43, 0x32, 0x34, 0x42, 0x30, 0x30, 0x32])
      (at_ (bus .powered [1] .inactive) .serial1 1 .answer))).txbuf
      = frameOfNat 0xAA01120000000000000000 := by decide

/-- P2, RX@430: SER2, the bus WarmingUp, Warmup(0x01) next; R124 on the bytes 00 FF 7F. -/
theorem test_serialReply2 :
    (after State.reset (exec (.serialReply2 #v[0x38, 0, 0xFF, 0x7F, 0x20, 0x7E, 0x32, 0x31])
      (at_ (bus .powered [1] .inactive) .serial2 1 .answer))).busState = .warmingUp
    ∧ ((after State.reset (exec (.serialReply2 #v[0x38, 0, 0xFF, 0x7F, 0x20, 0x7E, 0x32, 0x31])
      (at_ (bus .powered [1] .inactive) .serial2 1 .answer))).reg.slot 1).ser2
      = #v[0x38, 0x2E, 0x2E, 0x2E, 0x20, 0x7E, 0x32, 0x31] := by decide

/-- P2, RX@454 (Warmup) and the second poll of P7 (Heartbeat): WarmingUp. -/
theorem test_warmupAck :
    ((after State.reset (exec (.warmupAck 9)
      (at_ (bus .warmingUp [1] .inactive) .warmup 1 .answer))).reg.slot 1).state = .warmingUp
    ∧ ((after State.reset (exec (.warmupAck 9)
      (at_ (bus .warmingUp [1] .inactive) .heartbeat 1 .answer))).reg.slot 1).state
      = .warmingUp := by decide

/-- P2, RX@34574: WarmedUp, then PowerUp; RX@34614: LedOnConfirm next. -/
theorem test_warmupCompleteAck :
    (after State.reset (exec (.warmupCompleteAck 1)
      (at_ (bus .warmingUp [1] .warmingUp) .heartbeat 1 .answer))).txbuf
      = frameOfNat 0xAA81010000000000000000
    ∧ (after State.reset (exec (.warmupCompleteAck 1)
      (at_ (bus .warmingUp [1] .warmedUp) .warmupComplete 1 .answer))).txbuf
      = frameOfNat 0xAA01220000000000000000 := by decide

/-- P2, RX@49662: Active, Settled. -/
theorem test_heartbeatRunning :
    (after State.reset (exec (.heartbeatRunning 1)
      (at_ (bus .repelling [1] .warmedUp) .heartbeat 1 .answer))).result = .settled := by decide

/-- P2, command 7: Changed after the only device; with two, the second is next. -/
theorem test_ledBrightnessAck :
    (after State.reset (exec (.ledBrightnessAck 1)
      (at_ (bus .repelling [1] .active) .ledBrightness 1 .answer))).result = .changed
    ∧ (after State.reset (exec (.ledBrightnessAck 1)
      (at_ (bus .repelling [1, 7] .active) .ledBrightness 1 .answer))).txbuf
      = frameOfNat 0xAA07302700000000000000 := by decide

/-- P2, RX@4502: StartupComplete next. -/
theorem test_ledBrightnessAckStartup :
    (after State.reset (exec (.ledBrightnessAckStartup 1)
      (at_ (bus .warmingUp [1] .warmingUp) .brightnessStartup 1 .answer))).txbuf
      = frameOfNat 0xAA01230000000000000000 := by decide

/-- P2, RX@4478: LedBrightnessStartup next, level 39. -/
theorem test_colorStartupAck :
    (after State.reset (exec (.colorStartupAck 1)
      (at_ (bus .warmingUp [1] .warmingUp) .colorStartup 1 .answer))).txbuf
      = frameOfNat 0xAA01312700000000000000 := by decide

/-- P2, RX@34638: Active, Repelling, NotSettled. -/
theorem test_ledOnAck :
    (after State.reset (exec (.ledOnAck 1)
      (at_ (bus .warmingUp [1] .warmedUp) .ledOnConfirm 1 .answer))).reg = regWith [1] .active
    ∧ (after State.reset (exec (.ledOnAck 1)
      (at_ (bus .warmingUp [1] .warmedUp) .ledOnConfirm 1 .answer))).busState = .repelling := by decide

/-- P2, RX@4526: HB_LAST, Ok. -/
theorem test_startupCompleteAck :
    (after State.reset (exec (.startupCompleteAck 1)
      (at_ (bus .warmingUp [1] .warmingUp) .startupComplete 1 .answer))).hbLast = 100000
    ∧ (after State.reset (exec (.startupCompleteAck 1)
      (at_ (bus .warmingUp [1] .warmingUp) .startupComplete 1 .answer))).result = .ok := by decide

/-- X3: a frame emitted at exactly the end of the window is accepted; without it, TIMEOUT (X2). -/
theorem test_window_end :
    (after State.reset (step { at_ (bus .repelling [5] .warmedUp) .heartbeat 5 .answer with
      deframer := { buf := frameH, cnt := 11, tLast := 99991 } })).result = .settled
    ∧ (after State.reset (step (at_ (bus .repelling [5] .active) .heartbeat 5 .answer))).diagLog
      = [⟨.timeout, 5⟩] := by decide

/-- R155: an Unknown frame in the window raises UNEXPECTED with kind id 28. -/
theorem test_unknown_answer :
    (after State.reset (step { at_ (bus .repelling [5] .active) .heartbeat 5 .answer with
      deframer := { buf := frameOfNat 0xAA80130000000000000000, cnt := 11, tLast := 99991 } })).diagLog
      = [⟨.unexpected, 28⟩] := by decide

/-- P5: exhaustion is a no-response. -/
theorem test_exhausted :
    (after State.reset (exec (.startupAckUnaddressed #v[5, 3, 0xF2, 0, 0x0A, 3, 0x89])
      { at_ (bus .powered [] .active) .discover 0 .answer with
        reg := Vector.replicate 32 (dev .inactive) })).diagLog = [⟨.exhausted, 0x20⟩] := by decide

/-! ## Where the next step fetches -/

/-- A command, a request and a response placed after reset are what the next step runs. -/
theorem test_withFetchWord :
    (after State.reset (step (State.reset.withFetchWord 8 0x20))).result = .value (.number 0)
    ∧ (after State.reset (step (State.reset.withFetchWord 88 0xAA01110000000000000000))).txLog
      = [(0, frameOfNat 0xAA01110000000000000000)]
    ∧ ((after State.reset (step (State.reset.withFetchWord 88 0xAA8007050503F2000A0389))).reg.slot 5).state
      = .inactive := by decide

/-! ## Witnesses: for every statement with hypotheses, states and operands that meet them together, one
conjunct group for each clause. -/

/-- A payload and a fragment at the ends of the printable range. -/
def pay : Payload := #v[0, 0xAA, 0xFF, 1, 2, 3, 4]

/-- A fragment of the two boundary bytes of the printable filter. -/
def frag : Fragment := #v[32, 126, 32, 126, 32, 126, 32, 126]

/-- Every one of the slots 0x01..0x1F present, slot 0 absent. -/
def full : Registry := Registry.write (Vector.replicate 32 (dev .inactive)) 0 fun _ => Slot.absent

/-- The last slot and no other one is present. -/
def last : Registry := regWith [0x1F] .active

theorem witness_DecodeEncodeWellFormed :
    Instr.wellFormed (.setAddress 0x1F) = true ∧ Instr.wellFormed (.startupAck 1 pay) = true
    ∧ Instr.wellFormed (.ledBrightness 0 100) = true
    ∧ Instr.wellFormed (.loadSettings (List.replicate 14 0xFF)) = true := by decide

theorem witness_EncodeDecodeFrame :
    decodeFrame (frameOfNat 0xAA05300000000000000000) = .ok (.ledBrightness 5 0)
    ∧ decodeFrame (frameOfNat 0xAA1F30FF00000000000000) = .ok (.ledBrightness 0x1F 0xFF) := by decide

theorem witness_BuildRoundTrip :
    build .ledBrightness { addr := some 0x1F, level := some 100 }
      = some (frameOfNat 0xAA1F306400000000000000)
    ∧ build .colorStartup { addr := some 0, rgb := some (0, 0xAA, 0xFF) }
      = some (frameOfNat 0xAA003200AAFF0000000000)
    ∧ build .startupAckUnaddressed { } = some (frameOfNat 0xAA80070000000000000000)
    ∧ build .serialReply2 { serial := some frag } = some (frameOfNat 0xAA8012207E207E207E207E)
    ∧ ∀ i : Fin 8, 32 ≤ frag.get i ∧ frag.get i ≤ 126 := by decide

theorem witness_OnlyStartupAckRowsOverlap :
    ((kindTable.filter fun r => r.matches (frameOfNat 0xAA80070005000000000000)).map KindRow.kind)
      = [.startupAckUnaddressed, .startupAck] := by decide

theorem witness_BadCommandExactly :
    State.reset.busy = false ∧ argsNeeded 0x05 = none
    ∧ (argsNeeded 0x13 = some 4 ∧ (cmd 0x13 [1, 2, 3]).len < 4)
    ∧ (argsNeeded 0x01 = some 0 ∧ 0 ≤ (cmd 0x01 []).len)
    ∧ (argsNeeded 0x10 = some 3 ∧ (3 : BitVec 4) ≤ (cmd 0x10 [1, 2, 3]).len
      ∧ (3 : BitVec 4) ≤ (cmd 0x10 [1, 2, 3, 4]).len
      ∧ ∀ (j : Nat) (h : j < 14), j < 3 →
        (cmd 0x10 [1, 2, 3]).arg[j] = (cmd 0x10 [1, 2, 3, 4]).arg[j]) := by decide

/-- A deframer that holds `n` bytes of the Discover frame, the last one stored at 5. -/
def held (n : BitVec 4) : Deframer := { buf := frameD, cnt := n, tLast := 5 }

theorem witness_DeframerGapRule :
    ((held 11).cnt ≠ 0 ∧ 8 < (14 : Word32) - (held 11).tLast ∧ (held 11).cnt = 11)
    ∧ ((held 1).cnt ≠ 0 ∧ 8 < (14 : Word32) - (held 1).tLast ∧ (held 1).cnt ≠ 11)
    ∧ (held 0).cnt = 0 ∧ (13 : Word32) - (held 11).tLast ≤ 8 := by decide

theorem witness_DeframerByteRules :
    (13 : Word32) - (held 10).tLast ≤ 8 ∧ (held 0).cnt = 0
    ∧ ((held 1).cnt ≠ 0 ∧ (held 1).cnt ≠ 11) ∧ ((held 10).cnt.toNat < 11 ∧ (held 10).cnt ≠ 0)
    ∧ (held 11).cnt = 11 := by decide

theorem witness_DeframerKeepsInvariant :
    (held 0).Inv ∧ (held 11).Inv ∧ ((held 11).step 14 (some 0xAA)).2.1 = some frameD := by decide

/-- Times exactly 8 ms apart. -/
def slow : Vector Word32 11 := #v[0, 8, 16, 24, 32, 40, 48, 56, 64, 72, 80]

theorem witness_DeframerEmitsFedFrame :
    d0.cnt = 0 ∧ frameD[0] = 0xAA ∧ (∀ i : Fin 11, 1 ≤ i.val → frameD.get i ≠ 0xAA)
    ∧ gapsClosed slow.toList = true ∧ (8 : Word32) < 89 - slow[10] := by decide

theorem witness_ReceivedByteTouchesDeframerOnly :
    (at_ State.reset .discover 0 .setup).dir = true ∧ State.reset.dir = false := by decide

theorem witness_GetOrCreateAndFind :
    (last.slot 0x1F).present = true ∧ (last.slot 0).present = false ∧ (0x1F : Byte) < 0x20 := by decide

theorem witness_TransmitPutsFrameOnLine :
    encode (.ledBrightness 0x1F 100) = .frame (frameOfNat 0xAA1F306400000000000000)
    ∧ Instr.wellFormed (.ledBrightness 0x1F 100) = true
    ∧ encode (.ledBrightness 0x1F 101) = .frame (frameOfNat 0xAA1F306500000000000000)
    ∧ Instr.wellFormed (.ledBrightness 0x1F 101) = false
    ∧ (at_ State.reset .ledBrightness 0x1F .transmitStart).seq
      = .line .ledBrightness 0x1F .transmitStart := by decide

theorem witness_FrameOutsideWaitIsStale :
    Instr.kind .discover = some .discover
    ∧ ∀ l a, State.reset.seq ≠ .line l a .transmitStart ∧ State.reset.seq ≠ .line l a .answer :=
  ⟨rfl, fun _ _ => ⟨by simp [State.reset], by simp [State.reset]⟩⟩

/-- The bus idle, a whole frame no row matches in RXBUF with its gap just over, and one more byte. -/
def lateFrame : State :=
  let s := { bus .repelling [1] .active with
    deframer := { buf := frameOfNat 0xAA80130000000000000000, cnt := 11, tLast := 99991 } }
  { s with inputs := [{ s.stillClock with rx := some 0xAA }] }

theorem witness_FrameOutsideWaitIsStale_step :
    lateFrame.nextClock.1.rst = false ∧ (∀ l a, lateFrame.seq ≠ .line l a .answer)
    ∧ ((lateFrame.sample lateFrame.nextClock.1 lateFrame.nextClock.2).receiveByte
        lateFrame.nextClock.1.rx).2 = some (frameOfNat 0xAA80130000000000000000)
    ∧ (after State.reset (step lateFrame)).diagLog = [⟨.stale, 28⟩] :=
  ⟨rfl, fun _ _ => by simp [lateFrame, bus, State.reset], by decide, by decide⟩

theorem witness_UnexpectedKindIsFailure :
    (at_ State.reset .heartbeat 1 .answer).seq = .line .heartbeat 1 .answer
    ∧ Line.expects .heartbeat ≠ [] ∧ Instr.kind .discover = some .discover
    ∧ MessageKind.discover ∉ Line.expects .heartbeat
    ∧ classify (frameOfNat 0xAA80130000000000000000) = .unknown := by decide

theorem witness_UnexpectedKindIsFailure_silence :
    State.reset.noresp < 2 ∧ State.noresp { State.reset with noresp := 2 } = 2
    ∧ ((bus .powered [1] .inactive).reg.slot 1).ser2V = false
    ∧ (((bus .powered [1] .inactive).reg.write 1 fun r => { r with ser2V := true }).slot 1).ser2V
      = true
    ∧ (bus .repelling [1, 0x1F] .active).IsNext ((1 : Addr).toNat + 1) 0x1F
    ∧ (bus .repelling [1, 0x1F] .active).NoneFrom ((0x1F : Addr).toNat + 1)
    ∧ (bus .repelling [1] .active).NoneFrom ((1 : Addr).toNat + 1) := by decide

theorem witness_TransmitLines :
    (at_ State.reset .heartbeat 1 .setup).seq = .line .heartbeat 1 .setup
    ∧ (at_ State.reset .heartbeat 1 (.writing 0)).seq = .line .heartbeat 1 (.writing 0)
    ∧ (at_ State.reset .heartbeat 1 (.writing 9)).seq = .line .heartbeat 1 (.writing 9)
    ∧ (at_ State.reset .heartbeat 1 (.writing 10)).seq = .line .heartbeat 1 (.writing 10)
    ∧ (at_ State.reset .heartbeat 1 .flush).seq = .line .heartbeat 1 .flush
    ∧ ((at_ (bus .repelling [1] .active) .heartbeat 1 .hold).seq = .line .heartbeat 1 .hold
      ∧ (at_ (bus .repelling [1] .active) .heartbeat 1 .hold).waitOver = true
      ∧ Line.window .heartbeat = some 1000)
    ∧ ((at_ (bus .repelling [1] .active) .color 0 .hold).waitOver = true
      ∧ Line.window .color = none)
    ∧ State.waitOver { at_ (bus .repelling [1] .active) .heartbeat 1 .hold with now := 99999 }
      = false
    ∧ (at_ (bus .repelling [1] .active) .color 0 .pause).seq = .line .color 0 .pause
    ∧ State.seq { State.reset with seq := .delaying .powerSettle } = .delaying .powerSettle := by
  decide

theorem witness_TransmitLines_step :
    (at_ State.reset .heartbeat 1 .flush).nextClock.1.rst = false
    ∧ (∀ l a, (at_ State.reset .heartbeat 1 .flush).seq ≠ .line l a .transmitStart
      ∧ (at_ State.reset .heartbeat 1 .flush).seq ≠ .line l a .answer)
    ∧ (at_ State.reset .heartbeat 1 .flush).receiveByte none
      = (at_ State.reset .heartbeat 1 .flush, none) :=
  ⟨rfl, fun _ _ => ⟨by simp [at_], by simp [at_]⟩, rfl⟩

theorem witness_TransmitTakesItsTime :
    (at_ (bus .repelling [1] .active) .heartbeat 1 .transmitStart).Inv
    ∧ (at_ (bus .repelling [1] .active) .heartbeat 1 .transmitStart).inputs = []
    ∧ (at_ (bus .repelling [1] .active) .heartbeat 1 .transmitStart).seq
      = .line .heartbeat 1 .transmitStart := by decide

/-- A whole HeartbeatRunning frame in RXBUF, its gap just over, in the wait for it at slot 1. -/
def answered : State :=
  { at_ (bus .repelling [1] .active) .heartbeat 1 .answer with
    deframer := { buf := frameH, cnt := 11, tLast := 99991 } }

theorem witness_ExchangeFrameBeforeTimeout :
    answered.deframer.step answered.now none
      = ({ answered.deframer with cnt := 0 }, some frameH, [])
    ∧ (d0.step 100000 none = (d0, none, [])
      ∧ (at_ (bus .repelling [1] .active) .heartbeat 1 .answer).waitTmo
        ≤ (at_ (bus .repelling [1] .active) .heartbeat 1 .answer).now
          - (at_ (bus .repelling [1] .active) .heartbeat 1 .answer).waitT0)
    ∧ (99999 : Word32) - 99000 < 1000 := by decide

theorem witness_StepRunsDecodedInstruction :
    ((given State.reset (cmd 1 [])).nextClock.1.rst = false
      ∧ (given State.reset (cmd 1 [])).seq = .idle ∧ (given State.reset (cmd 1 [])).busy = false
      ∧ (given State.reset (cmd 1 [])).nextClock.1.cmd = some (cmd 1 [])
      ∧ decodeCmd (cmd 1 []) = .ok .powerOn)
    ∧ ((at_ State.reset .heartbeat 1 .transmitStart).nextClock.1.rst = false
      ∧ (at_ State.reset .heartbeat 1 .transmitStart).busy = true
      ∧ decodeFrame (at_ State.reset .heartbeat 1 .transmitStart).txbuf = .ok (.heartbeat 1))
    ∧ (answered.seq = .line .heartbeat 1 .answer
      ∧ answered.deframer.step answered.nextClock.1.now none
        = ({ answered.deframer with cnt := 0 }, some frameH, [])
      ∧ decodeFrame frameH = .ok (.heartbeatRunning 5))
    ∧ (State.receiveByte answered (some 0xAA)).2 = some frameH
    ∧ answered.busy = true ∧ State.reset.busy = false := by decide

theorem witness_StartupAckRegistersDevice :
    (0x1F : Addr) ≠ 0 ∧ (1 : Addr) ≠ 0
    ∧ (at_ (bus .powered [] .active) .discover 0 .answer).seq = .line .discover 0 .answer := by decide

theorem witness_UnaddressedGetsLowestFree :
    (at_ (bus .powered [] .active) .discover 0 .answer).seq = .line .discover 0 .answer
    ∧ ((0x1F : Addr) ≠ 0
      ∧ ((full.write 0x1F fun _ => Slot.absent).slot 0x1F).present = false
      ∧ ∀ c : Addr, c ≠ 0 → c < 0x1F →
        ((full.write 0x1F fun _ => Slot.absent).slot c).present = true)
    ∧ (∀ c : Addr, c ≠ 0 → (full.slot c).present = true)
    ∧ (1 : BitVec 2) < 2 := by decide

theorem witness_SetAddressDrainIgnored :
    (at_ (bus .powered [] .active) .setAddress 0x1F .answer).seq = .line .setAddress 0x1F .answer
    ∧ Instr.kind (.startupAck 1 pay) = some .startupAck
    ∧ classify (frameOfNat 0) = .unknown := by decide

theorem witness_DiscoveryEndsAfterThree :
    State.reset.noresp < 2 ∧ State.noresp { State.reset with noresp := 1 } < 2
    ∧ State.noresp { State.reset with noresp := 2 } = 2 := by decide

theorem witness_SerialRepliesStored :
    ((at_ (bus .powered [1] .inactive) .serial1 1 .answer).seq = .line .serial1 1 .answer
      ∧ ((bus .powered [1] .inactive).reg.slot 1).ser2V = false)
    ∧ (((bus .powered [1] .inactive).reg.write 1 fun r => { r with ser2V := true }).slot 1).ser2V
      = true
    ∧ (at_ (bus .powered [1] .inactive) .serial2 0x1F .answer).seq
      = .line .serial2 0x1F .answer := by decide

/-- The last slot with its first fragment and without its second. -/
def half : Registry := last.write 0x1F fun r => { r with ser1V := true }

theorem witness_RetrieveSerialsWalk :
    ((31 : Nat) ≤ (0x1F : Addr).toNat ∧ (last.slot 0x1F).lacksSerial = true
      ∧ (last.slot 0x1F).ser1V = false
      ∧ ∀ b : Addr, 0 ≤ b.toNat → b.toNat < (0x1F : Addr).toNat → (last.slot b).lacksSerial = false)
    ∧ ((half.slot 0x1F).lacksSerial = true ∧ (half.slot 0x1F).ser1V = true)
    ∧ ((∀ b : Addr, 32 ≤ b.toNat → (last.slot b).lacksSerial = false)
      ∧ (bus .powered [0x1F] .active).busState = .powered
      ∧ (bus .powered [0x1F] .active).IsNext 0 0x1F)
    ∧ (bus .powered [] .active).NoneFrom 0 := by decide

theorem witness_WarmupAckMarksPolledDevice :
    (at_ (bus .warmingUp [1, 0x1F] .inactive) .warmup 1 .answer).seq = .line .warmup 1 .answer
    ∧ (at_ (bus .warmingUp [1, 0x1F] .inactive) .warmup 1 .answer).IsNext 2 0x1F
    ∧ (at_ (bus .warmingUp [1, 0x1F] .inactive) .warmup 0x1F .answer).NoneFrom 32 := by decide

theorem witness_PassTwoExchanges :
    (bus .warmingUp [1, 0x1F] .inactive).IsNext 0 1
    ∧ (bus .warmingUp [] .inactive).NoneFrom 0
    ∧ (at_ State.reset .colorStartup 1 .answer).seq = .line .colorStartup 1 .answer
    ∧ (at_ State.reset .brightnessStartup 1 .answer).seq = .line .brightnessStartup 1 .answer
    ∧ (at_ State.reset .startupComplete 1 .answer).seq = .line .startupComplete 1 .answer
    ∧ (bus .warmingUp [1, 0x1F] .inactive).IsNext 2 0x1F
    ∧ (bus .warmingUp [1, 0x1F] .inactive).NoneFrom 32 := by decide

theorem witness_HeartbeatAnswersSetState :
    (at_ (bus .repelling [1, 0x1F] .active) .heartbeat 1 .answer).seq = .line .heartbeat 1 .answer
    ∧ (bus .repelling [1, 0x1F] .active).IsNext 2 0x1F
    ∧ (bus .repelling [1, 0x1F] .active).NoneFrom 32 := by decide

theorem witness_HeartbeatAggregate :
    (∀ a, ((regWith [1] .active).slot a).present = true →
      ((regWith [1] .active).slot a).state ≠ .warmingUp
        ∧ ((regWith [1] .active).slot a).state ≠ .warmedUp)
    ∧ ((∀ a, ((regWith [0x1F] .warmedUp).slot a).present = true →
        ((regWith [0x1F] .warmedUp).slot a).state ≠ .warmingUp)
      ∧ ∃ a, ((regWith [0x1F] .warmedUp).slot a).present = true
        ∧ ((regWith [0x1F] .warmedUp).slot a).state = .warmedUp)
    ∧ ∃ a, ((regWith [0x1F] .warmingUp).slot a).present = true
      ∧ ((regWith [0x1F] .warmingUp).slot a).state = .warmingUp := by
  refine ⟨by decide, ⟨by decide, 0x1F, by decide⟩, 0x1F, by decide⟩

theorem witness_EndWarmUpExchanges :
    (bus .warmingUp [1, 0x1F] .warmedUp).IsNext 0 1 ∧ (bus .warmingUp [] .warmedUp).NoneFrom 0
    ∧ (at_ State.reset .warmupComplete 1 .answer).seq = .line .warmupComplete 1 .answer
    ∧ (at_ State.reset .ledOnConfirm 1 .answer).seq = .line .ledOnConfirm 1 .answer
    ∧ (bus .warmingUp [1, 0x1F] .warmedUp).IsNext 2 0x1F
    ∧ (bus .warmingUp [1, 0x1F] .warmedUp).NoneFrom 32 := by decide

theorem witness_BusyCommandIgnored :
    Instr.code .rebind = some 0x30 ∧ (at_ State.reset .discover 0 .answer).busy = true := by decide

theorem witness_PowerOnByBusState :
    State.reset.busy = false ∧ State.reset.cfgOk = true ∧ State.reset.busState = .offline
    ∧ (bus .error [] .active).busState = .error
    ∧ (bus .warmingUp [] .active).busState ≠ .offline
    ∧ (bus .warmingUp [] .active).busState ≠ .error := by decide

theorem witness_PowerOffByBusState :
    (bus .offline [] .active).busy = false ∧ (bus .offline [] .active).cfgOk = true
    ∧ (bus .offline [] .active).busState = .offline ∧ (bus .error [] .active).busState = .error
    ∧ (bus .repelling [] .active).busState ≠ .offline
    ∧ (bus .repelling [] .active).busState ≠ .error := by decide

theorem witness_HeartbeatPollStarts :
    State.reset.busState ≠ .warmingUp ∧ State.reset.busState ≠ .repelling
    ∧ (bus .warmingUp [0x1F] .active).busy = false ∧ (bus .warmingUp [0x1F] .active).cfgOk = true
    ∧ (bus .warmingUp [0x1F] .active).busState = .warmingUp
    ∧ (bus .warmingUp [0x1F] .active).IsNext 0 0x1F ∧ (bus .repelling [] .active).NoneFrom 0 := by
  decide

theorem witness_SaveRuntimeAccrues : (bus .repelling [] .active).busy = false := by decide

theorem witness_SetRGBWritesAndBroadcasts :
    State.reset.busy = false ∧ State.reset.cfgOk = true
    ∧ ((0x03 : Byte), (0xD5 : Byte), (0xFF : Byte))
      = (State.reset.settings.red, State.reset.settings.green, State.reset.settings.blue)
    ∧ ((0x03 : Byte), (0xD5 : Byte), (0xFE : Byte))
      ≠ (State.reset.settings.red, State.reset.settings.green, State.reset.settings.blue)
    ∧ State.reset.busState ≠ .warmingUp ∧ State.reset.busState ≠ .repelling
    ∧ (bus .repelling [] .active).busState = .repelling := by decide

theorem witness_SetBrightnessVisitsDevices :
    (bus .repelling [1] .active).busy = false ∧ (bus .repelling [1] .active).cfgOk = true
    ∧ (if (100 : Byte) = 255 then 254 else 100) = (bus .repelling [1] .active).settings.bright
    ∧ (if (255 : Byte) = 255 then 254 else 255) ≠ (bus .repelling [1] .active).settings.bright
    ∧ State.reset.busState ≠ .warmingUp ∧ State.reset.busState ≠ .repelling
    ∧ (bus .repelling [1] .active).busState = .repelling
    ∧ (bus .repelling [1] .active).IsNext 0 1 ∧ (bus .repelling [] .active).NoneFrom 0 := by decide

theorem witness_LedBrightnessAckGoesOn :
    (at_ (bus .repelling [1, 0x1F] .active) .ledBrightness 1 .answer).seq
      = .line .ledBrightness 1 .answer
    ∧ (bus .repelling [1, 0x1F] .active).IsNext 2 0x1F
    ∧ (bus .repelling [1, 0x1F] .active).NoneFrom 32 := by decide

theorem witness_SetThresholds :
    State.reset.busy = false ∧ (349200 : Word32) = State.reset.settings.warnAt
    ∧ (0 : Word32) ≠ State.reset.settings.warnAt
    ∧ ((18000 : BitVec 16).toNat = (if 57600 < (57601 : Word32).toNat then 18000 else 57601)
      ∧ (18000 : BitVec 16) = State.reset.settings.autoShutoff)
    ∧ ((57600 : BitVec 16).toNat = (if 57600 < (57600 : Word32).toNat then 18000 else 57600)
      ∧ (57600 : BitVec 16) ≠ State.reset.settings.autoShutoff) := by decide

theorem witness_LoadSettingsReplacesAll :
    State.reset.busy = false ∧ (List.replicate 13 (0 : Byte)).length < 14
    ∧ 14 ≤ (List.replicate 14 (0 : Byte)).length := by decide

theorem witness_InspectionAndRebind :
    State.reset.busy = false ∧ ((bus .repelling [0x1F] .active).reg.slot 0x1F).present = true
    ∧ (0x1F : Byte) < 0x20 ∧ (State.reset.reg.slot (addrOfByte 0x1F)).present = false
    ∧ State.reset.busState = .offline ∧ (bus .error [] .active).busState = .error := by decide

theorem witness_AccountingQueries : State.reset.busy = false := by decide

theorem witness_ConfigErrorTrap :
    guardedCommand .powerOff = true ∧ (bus .error [] .active).busy = false
    ∧ State.cfgOk { bus .error [] .active with cfgOk := false } = false
    ∧ (bus .error [] .active).busState = .error ∧ (bus .repelling [] .active).busState ≠ .error := by
  decide

theorem witness_PercentLeftMonotone :
    (349199 : Word32) ≤ 349200 ∧ (349200 : Word32) ≠ 0 := by decide

theorem witness_LevelOfRounds : (253 : Byte) ≤ 254 ∧ (254 : Byte) ≤ 254 := by decide

theorem witness_RecordRoundTrip :
    Settings.defaults.Legal
    ∧ Settings.Legal { Settings.defaults with bright := 254, autoShutoff := 57600 } := by decide

/-- The outcome is a next state. -/
def goesOn (o : Host.Outcome State Fault Refusal) : Bool :=
  match o with
  | .next _ => true
  | .fault _ | .refused _ => false

/-- A next state is the one `after` gives. -/
theorem goesOn_eq (s : State) {o : Host.Outcome State Fault Refusal} (h : goesOn o = true) :
    o = .next (after s o) := by
  cases o <;> first | rfl | cases h

theorem witness_StepKeepsInvariant :
    answered.Inv ∧ step answered = .next (after answered (step answered)) :=
  ⟨by decide, goesOn_eq _ (by decide)⟩

/-- A clock with `rst` in the middle of an exchange. -/
def resetting : State := { answered with inputs := [{ answered.stillClock with rst := true }] }

theorem witness_ResetLeavesR290 : resetting.nextClock.1.rst = true := by decide

/-- `answered` with both serial fragments of slot 1 valid. -/
def known : State :=
  { answered with reg := answered.reg.write 1 fun r =>
      { r with ser1V := true, ser1 := frag, ser2V := true, ser2 := frag } }

theorem witness_RecordsPersist :
    (Memory.wf known.reg = true ∧ known.nextClock.1.rst = false ∧ (known.reg.slot 1).present = true
      ∧ (known.reg.slot 1).ser1V = true ∧ (known.reg.slot 1).ser2V = true)
    ∧ step known = .next (after known (step known)) :=
  ⟨by decide, goesOn_eq _ (by decide)⟩

/-- The bus Repelling with `cfg_ok` low. -/
def unplugged : State := { bus .repelling [1] .active with cfgOk := false }

theorem witness_BusLifecycle : answered.Inv ∧ unplugged.Inv
    ∧ schedulerStep true true none answered = .next (after answered (schedulerStep true true none answered))
    ∧ acceptStep (some (cmd 3 [])) unplugged
      = .next (after unplugged (acceptStep (some (cmd 3 [])) unplugged)) :=
  ⟨by decide, by decide, goesOn_eq _ (by decide), goesOn_eq _ (by decide)⟩

/-- The bus in Error, as EnterError leaves it, with a PowerOn on the port. -/
def inError : State := given { bus .error [1] .offline with power := false } (cmd 1 [])

theorem witness_ErrorLeftOnlyByReset :
    (inError.Inv ∧ inError.busState = .error ∧ inError.nextClock.1.rst = false)
    ∧ step inError = .next (after inError (step inError)) :=
  ⟨by decide, goesOn_eq _ (by decide)⟩

theorem witness_DeviceStateMovesOnlyByTable :
    exec (.warmupAck 1) answered = .next (after answered (exec (.warmupAck 1) answered))
    ∧ ((answered.reg.slot 1).present = true
      ∧ ((after answered (exec (.warmupAck 1) answered)).reg.slot 1).state
        ≠ (answered.reg.slot 1).state)
    ∧ Line.heartbeat ≠ .setAddress ∧ Line.powerUp ≠ .powerDown
    ∧ classify (frameOfNat 0xAA80130000000000000000) = .unknown :=
  ⟨goesOn_eq _ (by decide), by decide, by decide, by decide, by decide⟩

/-- `s` with the frame `f` whole in RXBUF, its gap just over. -/
def hearing (s : State) (f : Frame) : State :=
  { s with deframer := { buf := f, cnt := 11, tLast := 99991 } }

/-- The device in slot 1 and its state after one clock of `s`. -/
def moved (s : State) : Bool × DevState × Option Frame :=
  (s.nextClock.1.rst = false && (s.reg.slot 1).present
    && (s.reg.slot 1).state ≠ ((after s (step s)).reg.slot 1).state,
    ((after s (step s)).reg.slot 1).state, s.arriving)

theorem witness_DeviceStateMovesOnlyByTable_step :
    moved (hearing (at_ (bus .powered [1] .offline) .discover 0 .answer)
      (frameOfNat 0xAA80070105030200000000)) =
      (true, .inactive, some (frameOfNat 0xAA80070105030200000000))
    ∧ (moved (at_ (bus .powered [1] .offline) .setAddress 1 .answer)).2.1 = .inactive
    ∧ moved (hearing (at_ (bus .repelling [1] .active) .heartbeat 1 .answer)
      (frameOfNat 0xAA80210100000000000000)) =
      (true, .warmedUp, some (frameOfNat 0xAA80210100000000000000))
    ∧ (moved (at_ (bus .repelling [1] .active) .powerDown 0 .pause)).2.1 = .offline
    ∧ (moved (given unplugged (cmd 3 []))).2.1 = .offline
    ∧ unplugged.cfgOk = false ∧ decodeCmd (cmd 3 []) = .ok .heartbeatPoll := by decide

/-- R51, log 28: a query accepted in the clock that ends a poll: RESULT is the second, both are kept. -/
theorem test_two_results :
    (after answered (step { answered with inputs :=
      [{ answered.stillClock with cmd := some (cmd 0x20 []) }] })).result = .value (.number 3)
    ∧ (after answered (step { answered with inputs :=
      [{ answered.stillClock with cmd := some (cmd 0x20 []) }] })).resLog
      = [.settled, .value (.number 3)] := by decide

/-- R81 (i): with `tx_idle` low the flush goes on and DIR stays 1, however long ago the first write. -/
theorem test_flush_waits_for_idle :
    (after answered (step { at_ (bus .repelling [1] .active) .heartbeat 1 .flush with inputs :=
      [{ answered.stillClock with txIdle := false }] })).seq = .line .heartbeat 1 .flush
    ∧ (after answered (step { at_ (bus .repelling [1] .active) .heartbeat 1 .flush with inputs :=
      [answered.stillClock] })).seq = .line .heartbeat 1 .hold := by decide

end Sys2Proof.Tests
end

/-! SUPPORT. Proofs of the state's statements: no command is accepted while BUSY, and every clock keeps
`State.Inv`. The second goes part by part: the deframer, the settings and the frames first; then the
invariant as what the code between two waits may rely on (`State.Running`); then the procedures, the
commands and the events of one clock. -/

namespace Sys2Proof.Machine

-- One theorem at a time: side by side, the elaborating threads exceed the memory limit of the check.
set_option Elab.async false

/-- Settles O37: every host command is run by `acceptCommand`, which answers a busy machine with itself. -/
theorem busyCommandIgnored : Obligations.BusyCommandIgnored := by
  unfold Obligations.BusyCommandIgnored
  intro i c s hcode hbusy
  rw [exec_command hcode]
  exact acceptCommand_busy hbusy _

/-! ## The deframer keeps its invariant (R182) -/

theorem Deframer.inv_reset {d : Deframer} : d.reset.Inv :=
  ⟨by simp [Deframer.reset], by simp [Deframer.reset], by simp [Deframer.reset]⟩

theorem Deframer.inv_start (d : Deframer) (now : Word32) : (d.start now sync).Inv := by
  refine ⟨by simp [Deframer.start], by simp [Deframer.start], fun i h1 hc => ?_⟩
  simp [Deframer.start] at hc
  omega

theorem Deframer.inv_append {d : Deframer} (h : d.Inv) {now : Word32} {b : Byte}
    (h0 : d.cnt ≠ 0) (h11 : d.cnt ≠ 11) (hb : b ≠ sync) : (d.append now b).Inv := by
  obtain ⟨hle, hsync, hrest⟩ := h
  have hpos : 1 ≤ d.cnt.toNat := by bv_omega
  have hlt : d.cnt.toNat < 11 := by bv_omega
  have hcnt : (d.cnt + 1).toNat = d.cnt.toNat + 1 := by bv_omega
  refine ⟨?_, fun _ => ?_, fun i h1 hi => ?_⟩
  · simp only [Deframer.append]
    bv_omega
  · have hne : d.cnt.toNat ≠ 0 := by omega
    simpa [Deframer.append, hne] using hsync (by bv_omega)
  · simp only [Deframer.append, hcnt] at hi
    by_cases he : d.cnt.toNat = i.val
    · simpa [Deframer.append, Vector.get_eq_getElem, he] using hb
    · have hold := hrest i h1 (by omega)
      simpa [Deframer.append, Vector.get_eq_getElem, he] using hold

theorem Deframer.inv_idleByte {d : Deframer} (h : d.Inv) (now : Word32) (b : Byte) :
    (d.idleByte now b).1.Inv := by
  unfold Deframer.idleByte
  split
  · next hb => subst hb; exact d.inv_start now
  · exact h

theorem Deframer.inv_byte {d : Deframer} (h : d.Inv) (now : Word32) (b : Byte) :
    (d.byte now b).1.Inv := by
  unfold Deframer.byte
  split
  · exact Deframer.inv_idleByte Deframer.inv_reset now b
  next h11 =>
    split
    · exact Deframer.inv_idleByte h now b
    next h0 =>
      split
      · next hb => subst hb; exact d.inv_start now
      · next hb => exact Deframer.inv_append h h0 h11 hb

theorem Deframer.inv_gap {d : Deframer} (h : d.Inv) (now : Word32) : (d.gap now).1.Inv := by
  unfold Deframer.gap
  split
  · split <;> exact Deframer.inv_reset
  · exact h

theorem Deframer.inv_step {d : Deframer} (h : d.Inv) (now : Word32) (rx : Option Byte) :
    (d.step now rx).1.Inv := by
  cases rx with
  | none => exact Deframer.inv_gap h now
  | some b => exact Deframer.inv_byte (Deframer.inv_gap h now) now b

/-! ## Legal settings (R43, R46) -/

theorem clampBright_le (v : Byte) : clampBright v ≤ 254 := by
  revert v; decide

theorem clampShutoff_le (seconds : Nat) : clampShutoff seconds ≤ 57600 := by
  unfold clampShutoff
  split
  · decide
  · next h =>
    have hle : seconds ≤ 57600 := Nat.le_of_not_lt h
    rw [BitVec.le_def, BitVec.toNat_ofNat, Nat.mod_eq_of_lt (by omega)]
    exact hle

theorem levelOf_le {b : Byte} (h : b ≤ 254) : levelOf b ≤ 100 := by
  revert b; decide

theorem Settings.legal_defaults : Settings.defaults.Legal := by decide

theorem settingsOfRecord_legal (rec : Record) : (settingsOfRecord rec).Legal :=
  ⟨clampBright_le _, clampShutoff_le _⟩

/-! ## `first_free` and the address of a StartupAck are never 0 -/

/-- `first_free` answers the sentinel or a slot of 0x01..0x1F (R193). -/
theorem addrOfByte_firstFree_ne_zero {reg : Registry} (h : reg.firstFree ≠ addrNone) :
    addrOfByte reg.firstFree ≠ 0 := by
  unfold Registry.firstFree at h ⊢
  split at h
  · next j hj =>
    obtain ⟨h1, h2, -, -⟩ := firstIndex_some hj
    simp only [addrOfByte]
    bv_omega
  · exact absurd rfl h

/-- The kind of a decoded frame is the kind of its class (R121). -/
theorem decodeFrame_kind {f : Frame} {i : Instr} (h : decodeFrame f = .ok i) :
    i.kind = some (classify f) := by
  unfold decodeFrame at h
  split at h <;> cases h <;> simp_all [Instr.kind]

/-- A row of another kind does not decide the class: it does not match, and the rows below it do. -/
theorem classifyWith_cons_ne {row : KindRow} {rows : List KindRow} {f : Frame} {k : MessageKind}
    (h : classifyWith (row :: rows) f = k) (hk : row.kind ≠ k) :
    row.matches f = false ∧ classifyWith rows f = k := by
  rw [classifyWith] at h
  split at h
  · exact absurd h hk
  · next hm => exact ⟨by simpa using hm, h⟩

/-- A kind that no row has is never answered. -/
theorem classifyWith_ne {rows : List KindRow} {k : MessageKind} (hk : k ≠ .unknown)
    (h : ∀ row ∈ rows, row.kind ≠ k) (f : Frame) : classifyWith rows f ≠ k := by
  induction rows with
  | nil => exact hk.symm
  | cons row rows ih =>
    intro hc
    obtain ⟨-, hrest⟩ := classifyWith_cons_ne hc (h row List.mem_cons_self)
    exact ih (fun r hr => h r (List.mem_cons_of_mem _ hr)) hrest

/-- A frame of kind StartupAck matches row P5 and not row P4 above it (R99). -/
theorem startupAck_rows {f : Frame} (h : classify f = .startupAck) :
    (categoryRow .startupAckUnaddressed 0x80 0x07 (.fix 0x00 :: anys 7)).matches f = false ∧
    (categoryRow .startupAck 0x80 0x07 (.address :: anys 7)).matches f = true := by
  obtain ⟨-, h⟩ := classifyWith_cons_ne h (by decide)
  obtain ⟨-, h⟩ := classifyWith_cons_ne h (by decide)
  obtain ⟨-, h⟩ := classifyWith_cons_ne h (by decide)
  obtain ⟨h4, h⟩ := classifyWith_cons_ne h (by decide)
  refine ⟨h4, ?_⟩
  rw [classifyWith] at h
  split at h
  · assumption
  · exact absurd h (classifyWith_ne (by decide) (by decide) f)

/-- The address a StartupAck carries is not 0: the frame with address byte 0 is row P4's (R143, R144). -/
theorem addrOfByte_startupAck_ne_zero {f : Frame} (h : classify f = .startupAck) :
    addrOfByte f[3] ≠ 0 := by
  obtain ⟨h4, h5⟩ := startupAck_rows h
  simp only [KindRow.matches_eq, categoryRow, anys, List.cons_append, List.nil_append,
    List.replicate, patternMatches_fix, patternMatches_address, patternMatches_any,
    patternMatches_nil, Bool.and_true, Bool.and_eq_true, beq_iff_eq] at h4 h5
  obtain ⟨h0, h1, h2, haddr⟩ := h5
  have h3 : f[3] ≠ 0#8 := by simpa [h0, h1, h2] using h4
  intro ha
  exact h3 ((byteOfAddr_addrOfByte haddr).symm.trans (byteOfAddr_eq_zero.mpr ha))

/-- The same of the frame as the instruction carries it. -/
theorem frame_startupAck_ne_zero {f g : Frame} {i : Instr} (h : decodeFrame f = .ok i)
    (hk : i.kind = some .startupAck) (hg : encode i = .frame g) : addrOfByte g[3] ≠ 0 := by
  cases i <;> simp [Instr.kind] at hk
  next a x =>
    cases hg
    have hclass : classify f = .startupAck := (Option.some.inj (decodeFrame_kind h)).symm
    have ha : addrOfByte f[3] = a := by
      rw [decodeFrame, hclass] at h
      cases h; rfl
    simpa [frameRSPI, ← ha] using addrOfByte_startupAck_ne_zero hclass

/-! ## The invariant, taken apart

`State.Inv` is a part that no control register enters (`Stored`) and what SEQ says about the others.
Between two waits the code of a procedure `p` runs in a state of `Running p`; each of its ways to end
(`finish`, `enter`, `startDelay`) meets the invariant again. -/

/-- What the invariant says of the registry, the deframer and the settings. -/
structure State.Stored (s : State) : Prop where
  mem : Memory.wf s.reg = true
  slot0 : (s.reg.slot 0).present = false
  deframer : s.deframer.Inv
  legal : s.settings.Legal

/-- POWER is 1 only in a session (R278). -/
abbrev State.RailFollowsBus (s : State) : Prop := s.power = (s.busState = .powered || s.on)

/-- The registers while code of procedure `p` runs: a command is in progress, `Transmit` is not, and the
bus is in a state `p` runs in. -/
structure State.Running (s : State) (p : Proc) : Prop where
  stored : s.Stored
  busy : s.busy = true
  dir : s.dir = false
  rail : s.RailFollowsBus
  runs : p.runsIn s.busState = true

/-- What the invariant asks of line `l` at slot `a`: a loop stands at a present slot (R194), an assigned
address is not 0 (R193), Discovery's streak is below its limit (R222). -/
structure State.Admits (s : State) (l : Line) (a : Addr) : Prop where
  present : l.perDevice = true → (s.reg.slot a).present = true
  assigned : l = .setAddress → a ≠ 0
  streak : l.proc = .discovery → s.noresp < norespLimit

/-- The invariant at line `l`, phase `ph`. -/
structure State.AtLine (s : State) (l : Line) (a : Addr) (ph : Phase) : Prop where
  stored : s.Stored
  busy : s.busy = true
  dir : s.dir = ph.transmitting
  rail : s.RailFollowsBus
  runs : l.proc.runsIn s.busState = true
  allowed : ph.allowed l = true
  admits : s.Admits l a
  request : s.txbuf = l.request a s.settings

variable {s t : State} {l : Line} {a : Addr} {ph : Phase} {p q : Proc} {d : DelayLine}

theorem State.inv_iff : s.Inv ↔ s.Stored ∧ s.control = true :=
  ⟨fun ⟨hmem, h0, hd, hl, hc⟩ => ⟨⟨hmem, h0, hd, hl⟩, hc⟩,
    fun ⟨⟨hmem, h0, hd, hl⟩, hc⟩ => ⟨hmem, h0, hd, hl, hc⟩⟩

theorem State.inv_idle_iff (hq : s.seq = .idle) :
    s.Inv ↔ s.Stored ∧ s.busy = false ∧ s.dir = false ∧ s.RailFollowsBus ∧
      Proc.idle.runsIn s.busState = true := by
  simp only [State.inv_iff, State.control, hq, Seq.proc, Bool.and_eq_true, Bool.not_eq_true',
    decide_eq_true_eq]
  exact ⟨fun ⟨hs, ⟨hr, hp⟩, hb, hd⟩ => ⟨hs, hb, hd, hp, hr⟩,
    fun ⟨hs, hb, hd, hp, hr⟩ => ⟨hs, ⟨hr, hp⟩, hb, hd⟩⟩

theorem State.inv_delaying_iff (hq : s.seq = .delaying d) :
    s.Inv ↔ s.Running (Seq.delaying d).proc := by
  simp only [State.inv_iff, State.control, hq, Bool.and_eq_true, Bool.not_eq_true',
    decide_eq_true_eq]
  exact ⟨fun ⟨hs, ⟨hr, hp⟩, hb, hd⟩ => ⟨hs, hb, hd, hp, hr⟩,
    fun ⟨hs, hb, hd, hp, hr⟩ => ⟨hs, ⟨hr, hp⟩, hb, hd⟩⟩

theorem State.inv_line_iff (hq : s.seq = .line l a ph) : s.Inv ↔ s.AtLine l a ph := by
  simp only [State.inv_iff, State.control, hq, Seq.proc, Bool.and_eq_true, Bool.or_eq_true,
    Bool.not_eq_true', decide_eq_true_eq]
  constructor
  · rintro ⟨hs, ⟨hr, hp⟩, ⟨⟨⟨⟨⟨hb, hd⟩, hal⟩, hpres⟩, hass⟩, hstr⟩, htx⟩
    exact ⟨hs, hb, hd, hp, hr, hal,
      ⟨fun h => by simpa [h] using hpres, fun h => by simpa [h] using hass,
        fun h => by simpa [h] using hstr⟩, htx⟩
  · rintro ⟨hs, hb, hd, hp, hr, hal, ⟨hpres, hass, hstr⟩, htx⟩
    refine ⟨hs, ⟨hr, hp⟩, ⟨⟨⟨⟨⟨hb, hd⟩, hal⟩, ?_⟩, ?_⟩, ?_⟩, htx⟩
    · cases hl : l.perDevice with
      | false => exact .inl rfl
      | true => exact .inr (hpres hl)
    · exact not_or_of_imp hass
    · exact not_or_of_imp hstr

/-- BUSY is 0 only with SEQ at Idle (R39). -/
theorem State.seq_idle_of_free (h : s.Inv) (hb : s.busy = false) : s.seq = .idle := by
  cases hq : s.seq with
  | idle => rfl
  | delaying d => simp [((State.inv_delaying_iff hq).mp h).busy] at hb
  | line l a ph => simp [((State.inv_line_iff hq).mp h).busy] at hb

/-! ## Which bus states the procedures run in -/

/-- The procedures of a session that is past PowerOn run with the bus On. -/
theorem Proc.runsIn_on_iff (b : BusState) : Proc.heartbeatPoll.runsIn b = true ↔
    b = .warmingUp ∨ b = .repelling := by
  cases b <;> decide

/-! ## Moving between `Running` states -/

/-- `Stored` reads the registry, the deframer and the settings only. -/
theorem State.Stored.congr (h : s.Stored) (hreg : t.reg = s.reg := by rfl)
    (hdeframer : t.deframer = s.deframer := by rfl) (hsettings : t.settings = s.settings := by rfl) :
    t.Stored :=
  ⟨hreg ▸ h.mem, hreg ▸ h.slot0, hdeframer ▸ h.deframer, hsettings ▸ h.legal⟩

theorem State.Stored.withReg (h : s.Stored) {reg : Registry} (hm : Memory.wf reg = true)
    (h0 : (reg.slot 0).present = false) : State.Stored { s with reg := reg } :=
  ⟨hm, h0, h.deframer, h.legal⟩

theorem State.Stored.withSettings (h : s.Stored) {r : Settings} (hr : r.Legal) :
    State.Stored { s with settings := r } := ⟨h.mem, h.slot0, h.deframer, hr⟩

theorem State.Stored.withDeframer (h : s.Stored) {d : Deframer} (hd : d.Inv) :
    State.Stored { s with deframer := d } := ⟨h.mem, h.slot0, hd, h.legal⟩

/-- A save writes ACTIVE_S and no other setting (R250). -/
theorem State.Stored.saveRuntime (h : s.Stored) : s.saveRuntime.Stored := by
  refine ⟨?_, ?_, ?_, ?_⟩
  · simpa using h.mem
  · simpa using h.slot0
  · simpa using h.deframer
  · simpa using h.legal

/-- Forcing every device Offline moves no PRESENT (R229, R266). -/
theorem Registry.present_allOffline (reg : Registry) (a : Addr) :
    (reg.allOffline.slot a).present = (reg.slot a).present := by
  rw [Registry.slot_allOffline]
  split <;> rfl

theorem State.Stored.allOffline (h : s.Stored) :
    State.Stored { s with reg := s.reg.allOffline } :=
  h.withReg (Memory.wf_allOffline h.mem) ((Registry.present_allOffline _ _).trans h.slot0)

theorem State.Stored.enterError (h : s.Stored) : s.enterError.Stored := by
  refine ⟨?_, ?_, ?_, ?_⟩
  · simpa using Memory.wf_allOffline h.mem
  · rw [State.enterError_reg, Registry.present_allOffline]
    exact h.slot0
  · simpa using h.deframer
  · simpa using h.legal

/-- The control registers of `t` are those of `s`. -/
theorem State.Running.of_stored (h : s.Running p) (ht : t.Stored)
    (hbusy : t.busy = s.busy := by simp) (hdir : t.dir = s.dir := by simp)
    (hpower : t.power = s.power := by simp) (hbus : t.busState = s.busState := by simp) :
    t.Running p := by
  refine ⟨ht, hbusy.trans h.busy, hdir.trans h.dir, ?_, hbus ▸ h.runs⟩
  have hrail := h.rail
  simpa [State.RailFollowsBus, State.on, hpower, hbus] using hrail

/-- The same registers serve any procedure the bus state admits. -/
theorem State.Running.mono (h : s.Running p) (hq : q.runsIn s.busState = true) : s.Running q :=
  ⟨h.stored, h.busy, h.dir, h.rail, hq⟩

theorem State.Running.raise (h : s.Running p) (c : DiagCode) (x : Byte) :
    (s.raise c x).Running p :=
  h.of_stored h.stored.congr

theorem State.Running.withReg (h : s.Running p) {reg : Registry} (hm : Memory.wf reg = true)
    (h0 : (reg.slot 0).present = false) : State.Running { s with reg := reg } p :=
  h.of_stored (h.stored.withReg hm h0)

/-- New legal settings, with a record on the save port (R241). -/
theorem State.Running.persist (h : s.Running p) {r : Settings} (hr : r.Legal) :
    (State.persist { s with settings := r }).Running p :=
  h.of_stored (h.stored.withSettings hr).congr

theorem State.Running.saveRuntime (h : s.Running p) : s.saveRuntime.Running p :=
  h.of_stored h.stored.saveRuntime

theorem State.Running.withHbLast (h : s.Running p) (w : Word32) :
    State.Running { s with hbLast := w } p :=
  h.of_stored h.stored.congr

theorem State.Running.withNoresp (h : s.Running p) (n : BitVec 2) :
    State.Running { s with noresp := n } p :=
  h.of_stored h.stored.congr

/-! ## The three ends of a stretch of code -/

/-- A command ends only where SEQ may be Idle. -/
theorem State.Running.finish_inv (h : s.Running .idle) (r : Result) : (s.finish r).Inv :=
  (State.inv_idle_iff rfl).mpr
    ⟨h.stored.congr, rfl, h.dir, h.rail, h.runs⟩

theorem State.Running.enter_inv (h : s.Running l.proc) (ha : s.Admits l a) : (s.enter l a).Inv :=
  (State.inv_line_iff rfl).mpr
    ⟨h.stored.congr, h.busy,
      h.dir.trans rfl, h.rail, h.runs, rfl, ⟨ha.present, ha.assigned, ha.streak⟩, rfl⟩

theorem State.Running.startDelay_inv (h : s.Running (Seq.delaying d).proc) (n : Word32) :
    (s.startDelay d n).Inv :=
  (State.inv_delaying_iff rfl).mpr
    (h.of_stored h.stored.congr)

/-- A line of a loop is admitted at a present slot. -/
theorem State.admits_present (hl : l.perDevice = true) (hp : (s.reg.slot a).present = true) :
    s.Admits l a := by
  refine ⟨fun _ => hp, ?_, ?_⟩
  · rintro rfl; cases hl
  · cases l <;> simp [Line.perDevice, Line.proc] at hl ⊢

/-- A broadcast is admitted anywhere. -/
theorem State.admits_broadcast (hl : l.window = none) : s.Admits l a := by
  cases l <;> cases hl <;> exact ⟨nofun, nofun, nofun⟩

/-- A loop stops at a present slot, or runs the code after it (R194). -/
theorem State.Running.loopFrom_inv (h : s.Running l.proc) (hl : l.perDevice = true) (i : Nat)
    {done : State → State} (hdone : (done s).Inv) : (s.loopFrom l i done).Inv := by
  rcases loopFrom_cases s l i done with ⟨n, ⟨-, hpresent, -⟩, heq⟩ | ⟨-, heq⟩
  · rw [heq]; exact h.enter_inv (State.admits_present hl hpresent)
  · rw [heq]; exact hdone

/-! ## The answer to a polled device -/

/-- Code of procedure `p` has just heard, or not heard, from the present slot `a`. -/
structure State.Visits (s : State) (p : Proc) (a : Addr) : Prop where
  running : s.Running p
  present : (s.reg.slot a).present = true

theorem State.Visits.raise (h : s.Visits p a) (c : DiagCode) (x : Byte) :
    (s.raise c x).Visits p a := ⟨h.running.raise c x, h.present⟩

/-- A write to the slot in hand that keeps it present and in canonical form. -/
theorem State.Visits.memWrite (h : s.Visits p a) {f : Slot → Slot}
    (hw : Memory.wf (s.reg.write a f) = true) (hf : (f (s.reg.slot a)).present = true) :
    (s.memWrite a f).Visits p a := by
  have hkeep := Registry.present_write (hf.trans h.present.symm)
  exact ⟨h.running.withReg hw ((hkeep 0).trans h.running.stored.slot0), (hkeep a).trans h.present⟩

theorem State.Visits.setDevState (h : s.Visits p a) (v : DevState) :
    (s.setDevState a v).Visits p a :=
  h.memWrite (Memory.wf_state h.running.stored.mem h.present v) h.present

/-- What holds before `Expect`, survives a diagnostic and survives the expected answer, holds after it
(R204). -/
theorem State.expect_induct {P : State → Prop} {r : Option (MessageKind × Frame)} {k : MessageKind}
    {onOk : Frame → State → State} (h : P s) (hraise : ∀ x, P (s.raise .unexpected x))
    (hok : ∀ f, P (onOk f s)) : P (s.expect r k onOk) := by
  rcases r with _ | ⟨k', f⟩
  · exact h
  · rcases eq_or_ne k' k with rfl | hne
    · rw [expect_ok]; exact hok f
    · rw [expect_other s hne]; exact hraise _

theorem State.Visits.expect (h : s.Visits p a) (r : Option (MessageKind × Frame)) (k : MessageKind)
    {onOk : Frame → State → State} (hok : ∀ f, (onOk f s).Visits p a) :
    (s.expect r k onOk).Visits p a :=
  State.expect_induct (P := fun t => t.Visits p a) h (fun _ => h.raise _ _) hok

/-- The next line of the same loop body. -/
theorem State.Visits.enter_inv (h : s.Visits l.proc a) (hl : l.perDevice = true) : (s.enter l a).Inv :=
  h.running.enter_inv (State.admits_present hl h.present)

/-! ## PowerOn (R221 to R224, R228) -/

theorem State.Running.endPowerOn_inv (h : s.Running .idle) : s.endPowerOn.Inv :=
  (h.withHbLast s.now).finish_inv .ok

/-- WarmUpAll runs in WarmingUp, where a command may end. -/
theorem State.Running.idle_of_warmUpAll (h : s.Running .warmUpAll) : s.Running .idle := by
  have hb : s.busState = .warmingUp := by simpa [Proc.runsIn] using h.runs
  exact h.mono (by rw [hb]; rfl)

theorem State.Running.pass2From_inv (h : s.Running .warmUpAll) (i : Nat) : (s.pass2From i).Inv :=
  State.Running.loopFrom_inv (l := .colorStartup) h rfl i h.idle_of_warmUpAll.endPowerOn_inv

theorem State.Running.pass1From_inv (h : s.Running .warmUpAll) (i : Nat) : (s.pass1From i).Inv :=
  State.Running.loopFrom_inv (l := .warmup) h rfl i
    (State.Running.startDelay_inv (d := .warmupSettle) h tSettle)

/-- From Powered to WarmingUp the rail stays on (R228). -/
theorem State.Running.enterWarmUp_inv (h : s.Running .retrieveSerials) : s.enterWarmUp.Inv := by
  have hbus : s.busState = .powered := by simpa [Proc.runsIn] using h.runs
  have hpower : s.power = true := by simpa [State.RailFollowsBus, hbus] using h.rail
  have hs := h.stored.saveRuntime
  refine State.Running.pass1From_inv (s := { s.saveRuntime with busState := .warmingUp })
    ⟨hs.congr, ?_, ?_, ?_, rfl⟩ 0
  · simpa using h.busy
  · simpa using h.dir
  · simp [State.RailFollowsBus, State.on, hpower]

theorem State.Running.retrieveFrom_inv (h : s.Running .retrieveSerials) (i : Nat) :
    (s.retrieveFrom i).Inv := by
  unfold State.retrieveFrom
  split
  · next n hn =>
    obtain ⟨-, hpresent, -, -⟩ := Registry.next_some hn
    have hv : s.Visits .retrieveSerials n := ⟨h, hpresent⟩
    split
    · exact State.Visits.enter_inv (l := .serial2) hv rfl
    · exact State.Visits.enter_inv (l := .serial1) hv rfl
  · exact h.enterWarmUp_inv

theorem State.Running.discoveryLoop_inv (h : s.Running .discovery) : s.discoveryLoop.Inv := by
  unfold State.discoveryLoop
  split
  · next hlt =>
    exact State.Running.enter_inv (l := .discover) h ⟨nofun, nofun, fun _ => hlt⟩
  · exact State.Running.retrieveFrom_inv (h.mono h.runs) 0

theorem State.Running.productive_inv (h : s.Running .discovery) : s.productive.Inv :=
  (h.withNoresp 0).discoveryLoop_inv

theorem State.Running.unproductive_inv (h : s.Running .discovery) : s.unproductive.Inv :=
  (h.withNoresp (s.noresp + 1)).discoveryLoop_inv

/-- A device registers at an address that is not 0, so slot 0x00 stays absent (R34). -/
theorem State.Running.register (h : s.Running p) (ha : a ≠ 0) : (s.register a).Running p := by
  refine h.withReg (State.register_wf h.stored.mem a) ?_
  have hslot : (s.register a).reg.slot 0 = s.reg.slot 0 := by
    rw [State.register_slot, if_neg (Ne.symm ha)]
  exact (congrArg Slot.present hslot).trans h.stored.slot0

/-- What an exchange may return: a StartupAck carries an address that is not 0. -/
def ValidAnswer (r : Option (MessageKind × Frame)) : Prop :=
  ∀ f, r = some (.startupAck, f) → addrOfByte f[3] ≠ 0

theorem State.Running.discovered_inv (h : s.Running .discovery) (hn : s.noresp < norespLimit)
    {r : Option (MessageKind × Frame)} (hr : ValidAnswer r) : (s.discovered r).Inv := by
  unfold State.discovered
  split
  · exact h.unproductive_inv
  · next f => exact (h.register (hr f rfl)).productive_inv
  · dsimp only
    split
    · exact (h.raise _ _).unproductive_inv
    · next hfree =>
      exact State.Running.enter_inv (l := .setAddress) h
        ⟨nofun, fun _ => addrOfByte_firstFree_ne_zero hfree, fun _ => hn⟩
  · exact (h.raise _ _).unproductive_inv

theorem State.Visits.gotSerial1_inv (h : s.Visits .retrieveSerials a)
    (r : Option (MessageKind × Frame)) : (s.gotSerial1 a r).Inv := by
  unfold State.gotSerial1
  extract_lets s1
  have hv : s1.Visits .retrieveSerials a := h.expect r _ fun f =>
    h.memWrite (Memory.wf_ser1 h.running.stored.mem h.present f) h.present
  split
  · exact hv.running.retrieveFrom_inv _
  · exact State.Visits.enter_inv (l := .serial2) hv rfl

theorem State.Visits.gotSerial2_inv (h : s.Visits .retrieveSerials a)
    (r : Option (MessageKind × Frame)) : (s.gotSerial2 a r).Inv := by
  unfold State.gotSerial2
  extract_lets s1
  have hv : s1.Visits .retrieveSerials a := h.expect r _ fun f =>
    h.memWrite (Memory.wf_ser2 h.running.stored.mem h.present f) h.present
  exact hv.running.retrieveFrom_inv _

theorem State.Visits.gotWarmup_inv (h : s.Visits .warmUpAll a)
    (r : Option (MessageKind × Frame)) : (s.gotWarmup a r).Inv := by
  unfold State.gotWarmup
  extract_lets s1
  have hv : s1.Visits .warmUpAll a := h.expect r _ fun _ =>
    h.memWrite (Memory.wf_warm h.running.stored.mem h.present s.now) h.present
  exact hv.running.pass1From_inv _

/-! ## HeartbeatPoll and EndWarmUpAll (R225, R226) -/

/-- With the bus On a command may end. -/
theorem State.Running.idle_of_on (h : s.Running .heartbeatPoll) : s.Running .idle := by
  have hb := (Proc.runsIn_on_iff _).mp h.runs
  refine h.mono ?_
  rcases hb with hb | hb <;> rw [hb] <;> rfl

theorem State.Running.endWarmUpFrom_inv (h : s.Running .endWarmUpAll) (i : Nat) :
    (s.endWarmUpFrom i).Inv := by
  have hb := (Proc.runsIn_on_iff _).mp h.runs
  have hpower : s.power = true := by
    rcases hb with hb | hb <;> simpa [State.RailFollowsBus, State.on, hb] using h.rail
  refine State.Running.loopFrom_inv (l := .warmupComplete) h rfl i
    (State.Running.finish_inv (s := { s with busState := .repelling })
      ⟨?_, h.busy, h.dir, ?_, rfl⟩ .notSettled)
  · exact h.stored.congr
  · simp [State.RailFollowsBus, State.on, hpower]

theorem State.Running.aggregate_inv (h : s.Running .heartbeatPoll) : s.aggregate.Inv := by
  unfold State.aggregate
  split
  · split
    · exact h.idle_of_on.finish_inv .settled
    · exact State.Running.enter_inv (l := .rePowerUp) (h.mono h.runs) (State.admits_broadcast rfl)
  · exact h.idle_of_on.finish_inv .notSettled

theorem State.Running.heartbeatFrom_inv (h : s.Running .heartbeatPoll) (i : Nat) :
    (s.heartbeatFrom i).Inv :=
  State.Running.loopFrom_inv (l := .heartbeat) h rfl i h.aggregate_inv

theorem State.Visits.gotHeartbeat_inv (h : s.Visits .heartbeatPoll a)
    (r : Option (MessageKind × Frame)) : (s.gotHeartbeat a r).Inv := by
  unfold State.gotHeartbeat
  dsimp only
  split
  · exact h.running.heartbeatFrom_inv _
  · exact (h.setDevState .warmingUp).running.heartbeatFrom_inv _
  · exact (h.setDevState .warmedUp).running.heartbeatFrom_inv _
  · exact (h.setDevState .active).running.heartbeatFrom_inv _
  · exact (h.raise _ _).running.heartbeatFrom_inv _

theorem State.Visits.gotLedOn_inv (h : s.Visits .endWarmUpAll a)
    (r : Option (MessageKind × Frame)) : (s.gotLedOn a r).Inv := by
  unfold State.gotLedOn
  extract_lets s1
  have hv : s1.Visits .endWarmUpAll a := h.expect r _ fun _ => h.setDevState .active
  exact hv.running.endWarmUpFrom_inv _

/-! ## SetBrightness (R246) -/

theorem State.Running.brightnessFrom_inv (h : s.Running .setBrightness) (i : Nat) :
    (s.brightnessFrom i).Inv :=
  State.Running.loopFrom_inv (l := .ledBrightness) h rfl i
    ((h.mono h.runs : s.Running .heartbeatPoll).idle_of_on.finish_inv .changed)

/-! ## The continuations -/

/-- Every continuation of an exchange meets the invariant (R203). -/
theorem State.Running.returned_inv (h : s.Running l.proc) (ha : s.Admits l a)
    (hw : l.window.isSome = true) {r : Option (MessageKind × Frame)} (hr : ValidAnswer r) :
    (s.returned l a r).Inv := by
  have hv : l.perDevice = true → s.Visits l.proc a := fun hl => ⟨h, ha.present hl⟩
  cases l with
  | discover => exact h.discovered_inv (ha.streak rfl) hr
  | setAddress => exact (h.register (ha.assigned rfl)).productive_inv
  | serial1 => exact (hv rfl).gotSerial1_inv r
  | serial2 => exact (hv rfl).gotSerial2_inv r
  | warmup => exact (hv rfl).gotWarmup_inv r
  | colorStartup =>
    exact State.Visits.enter_inv (l := .brightnessStartup)
      ((hv rfl).expect r .colorStartupAck fun _ => hv rfl) rfl
  | brightnessStartup =>
    exact State.Visits.enter_inv (l := .startupComplete)
      ((hv rfl).expect r .ledBrightnessAckStartup fun _ => hv rfl) rfl
  | startupComplete =>
    exact ((hv rfl).expect r .startupCompleteAck fun _ => hv rfl).running.pass2From_inv _
  | heartbeat => exact (hv rfl).gotHeartbeat_inv r
  | warmupComplete =>
    exact State.Visits.enter_inv (l := .ledOnConfirm)
      ((hv rfl).expect r .warmupCompleteAck fun _ => hv rfl) rfl
  | ledOnConfirm => exact (hv rfl).gotLedOn_inv r
  | ledBrightness =>
    exact ((hv rfl).expect r .ledBrightnessAck fun _ => hv rfl).running.brightnessFrom_inv _
  | powerUp | rePowerUp | powerDown | color | colorConfirm => cases hw

/-- The end of PowerOff: the rail goes off and every device is Offline (R229). -/
theorem State.Running.powerDown_inv (h : s.Running p) :
    (State.finish { s with reg := s.reg.allOffline, power := false, busState := .offline } .ok).Inv := by
  have hs := h.stored.allOffline
  exact State.Running.finish_inv
    (s := { s with reg := s.reg.allOffline, power := false, busState := .offline })
    ⟨hs.congr, h.busy, h.dir,
      by simp [State.RailFollowsBus, State.on], rfl⟩ .ok

/-- Every continuation of a broadcast meets the invariant (R205). -/
theorem State.Running.sent_inv (h : s.Running l.proc) (hw : l.window = none) : (s.sent l).Inv := by
  cases l with
  | powerUp => exact ((h.mono h.runs : s.Running .discovery).withNoresp 0).discoveryLoop_inv
  | rePowerUp => exact h.endWarmUpFrom_inv 0
  | powerDown => exact h.powerDown_inv
  | color => exact State.Running.enter_inv (l := .colorConfirm) h (State.admits_broadcast rfl)
  | colorConfirm => exact (h.mono h.runs : s.Running .heartbeatPoll).idle_of_on.finish_inv .changed
  | discover | setAddress | serial1 | serial2 | warmup | colorStartup | brightnessStartup
  | startupComplete | heartbeat | warmupComplete | ledOnConfirm | ledBrightness => cases hw

/-- Every continuation of a delay line meets the invariant (R210). -/
theorem State.Running.delayed_inv (h : s.Running (Seq.delaying d).proc) : (s.delayed d).Inv := by
  cases d with
  | powerSettle =>
    exact State.Running.enter_inv (l := .powerUp) h (State.admits_broadcast rfl)
  | warmupSettle => exact State.Running.pass2From_inv h 0

variable {i : Instr}

/-! ## Commands (R220)

A command is accepted with SEQ at Idle, and its body runs in a state of `Running .idle`. -/

/-- A guarded command (R265): its body, or the trap of R266 that ends in Error with the rail off. -/
theorem State.Running.guarded_inv (h : s.Running .idle) {body : State → State} (hb : (body s).Inv) :
    (s.guarded body).Inv := by
  cases hc : s.cfgOk with
  | true => rw [guarded_ok hc]; exact hb
  | false =>
    rw [guarded_bad hc]
    split
    · exact h.finish_inv .configError
    · refine State.Running.finish_inv ⟨h.stored.enterError, ?_, ?_, ?_, ?_⟩ .configError
      · simpa using h.busy
      · exact State.enterError_dir s
      · simp [State.RailFollowsBus, State.on]
      · rw [State.enterError_busState]; rfl

theorem State.Running.powerOn_inv (h : s.Running .idle) : (powerOnBody s).Inv := by
  refine h.guarded_inv ?_
  split
  · exact h.finish_inv .refused
  · split
    · exact h.finish_inv .alreadyOn
    · exact State.Running.startDelay_inv (d := .powerSettle)
        (s := { s with power := true, busState := .powered })
        ⟨h.stored.congr, h.busy, h.dir, by simp [State.RailFollowsBus], rfl⟩ s.params.powerSettle

theorem State.Running.powerOff_inv (h : s.Running .idle) : (powerOffBody s).Inv := by
  have hnp : s.busState ≠ .powered := by simpa [Proc.runsIn] using h.runs
  refine h.guarded_inv ?_
  split
  · next hb =>
    refine State.Running.finish_inv (s := { s with power := false })
      ⟨h.stored.congr, h.busy, h.dir, ?_, h.runs⟩ .ok
    rcases hb with hb | hb <;> simp [State.RailFollowsBus, State.on, hb]
  · next hb =>
    have hon : Proc.powerOff.runsIn s.busState = true := by
      cases hs : s.busState <;> simp_all [Proc.runsIn]
    exact State.Running.enter_inv (l := .powerDown) (h.mono hon).saveRuntime
      (State.admits_broadcast rfl)

theorem State.Running.heartbeatPoll_inv (h : s.Running .idle) : (heartbeatPollBody s).Inv := by
  refine h.guarded_inv ?_
  split
  · next hon => exact ((h.mono (q := .heartbeatPoll) hon).withHbLast s.now).heartbeatFrom_inv 0
  · exact h.finish_inv .notRunning

theorem State.Running.setRGB_inv (h : s.Running .idle) (r g b : Byte) : (setRGBBody r g b s).Inv := by
  refine h.guarded_inv ?_
  split
  · exact h.finish_inv .unchanged
  · have hp := h.persist (r := { s.settings with red := r, green := g, blue := b }) h.stored.legal
    dsimp only
    split
    · next hon =>
      exact State.Running.enter_inv (l := .color) (hp.mono hon) (State.admits_broadcast rfl)
    · exact hp.finish_inv .changed

theorem State.Running.setBrightness_inv (h : s.Running .idle) (v : Byte) :
    (setBrightnessBody v s).Inv := by
  refine h.guarded_inv ?_
  split
  · exact h.finish_inv .unchanged
  · obtain ⟨-, hshutoff⟩ := h.stored.legal
    have hp := h.persist (r := { s.settings with bright := clampBright v })
      ⟨clampBright_le v, hshutoff⟩
    dsimp only
    split
    · next hon => exact State.Running.brightnessFrom_inv (hp.mono hon) 0
    · exact hp.finish_inv .changed

theorem State.Running.setWarnAt_inv (h : s.Running .idle) (v : Word32) : (setWarnAtBody v s).Inv := by
  unfold setWarnAtBody
  split
  · exact h.finish_inv .unchanged
  · exact (h.persist (r := { s.settings with warnAt := v }) h.stored.legal).finish_inv .changed

theorem State.Running.setAutoShutoff_inv (h : s.Running .idle) (v : Word32) :
    (setAutoShutoffBody v s).Inv := by
  unfold setAutoShutoffBody
  split
  · exact h.finish_inv .unchanged
  · obtain ⟨hbright, -⟩ := h.stored.legal
    exact (h.persist (r := { s.settings with autoShutoff := clampShutoff v.toNat })
      ⟨hbright, clampShutoff_le _⟩).finish_inv .changed

theorem State.Running.loadSettings_inv (h : s.Running .idle) (bytes : List Byte) :
    (loadSettingsBody bytes s).Inv := by
  have hload : ∀ r : Settings, r.Legal → State.Running { s with settings := r } .idle :=
    fun r hr => h.of_stored (h.stored.withSettings hr)
  unfold loadSettingsBody
  split
  · exact (hload _ Settings.legal_defaults).finish_inv .defaults
  · exact (hload _ (settingsOfRecord_legal _)).finish_inv .loaded

theorem State.Running.rebind_inv (h : s.Running .idle) : (rebindBody s).Inv :=
  State.Running.finish_inv (h.of_stored (h.stored.withDeframer Deframer.inv_reset)) .ok

/-- Every accepted command meets the invariant, at its end or at its first wait. -/
theorem State.Running.commandBody_inv (h : s.Running .idle) {c : Byte} (hi : i.code = some c) :
    (commandBody i s).Inv := by
  cases i with
  | powerOn => exact h.powerOn_inv
  | powerOff => exact h.powerOff_inv
  | heartbeatPoll => exact h.heartbeatPoll_inv
  | saveRuntime => exact h.saveRuntime.finish_inv .ok
  | setRGB r g b => exact h.setRGB_inv r g b
  | setBrightness v => exact h.setBrightness_inv v
  | setWarnAt v => exact h.setWarnAt_inv v
  | setAutoShutoff v => exact h.setAutoShutoff_inv v
  | loadSettings bytes => exact h.loadSettings_inv bytes
  | getBusState => exact h.finish_inv _
  | getDevice b => exact h.finish_inv _
  | getRuntimeHours => exact h.finish_inv _
  | getPercentLeft => exact h.finish_inv _
  | getHeartbeatDue => exact h.finish_inv _
  | rebind => exact h.rebind_inv
  | _ => cases hi

/-! ## Outcomes -/

/-- Whatever state the outcome goes on in meets the invariant. -/
def KeepsInv (o : Host.Outcome State Fault Refusal) : Prop := ∀ t, o = .next t → t.Inv

theorem keepsInv_next (h : s.Inv) : KeepsInv (.next s) := by
  rintro t ⟨⟩
  exact h

/-- A host command decodes to an instruction with a command code, never to a frame (R111). -/
theorem decodeCmd_code {c : Cmd} (h : decodeCmd c = .ok i) : ∃ op, i.code = some op := by
  unfold decodeCmd at h
  dsimp only at h
  split at h <;> (try split at h) <;> cases h <;> exact ⟨_, rfl⟩

/-- Acceptance keeps the invariant (R220). -/
theorem acceptStep_keepsInv (h : s.Inv) (cmd : Option Cmd) : KeepsInv (acceptStep cmd s) := by
  have hrun : s.busy = false → State.Running { s with busy := true } .idle := by
    intro hb
    obtain ⟨hs, -, hdir, hrail, hruns⟩ :=
      (State.inv_idle_iff (State.seq_idle_of_free h hb)).mp h
    exact ⟨hs.congr, rfl, hdir, hrail, hruns⟩
  rcases acceptStep_cases cmd s with ⟨-, heq⟩ | ⟨c, r, -, hb, -, heq⟩ | ⟨c, i, -, hb, hd, heq⟩
  · rw [heq]
    exact keepsInv_next h
  · rw [heq]
    exact keepsInv_next (((hrun hb).raise .badCmd c.op).finish_inv .badCommand)
  · obtain ⟨op, hop⟩ := decodeCmd_code hd
    rw [heq, exec_command hop, acceptCommand_free hb]
    exact keepsInv_next ((hrun hb).commandBody_inv hop)

/-! ## `Transmit` (R201, R202) -/

/-- The instruction whose frame line `l` sends. -/
def Line.instr (l : Line) (a : Addr) (r : Settings) : Instr :=
  match l with
  | .powerUp | .rePowerUp => .powerUp
  | .discover => .discover
  | .setAddress => .setAddress a
  | .serial1 => .serialRequest1 a
  | .serial2 => .serialRequest2 a
  | .warmup => .warmup a
  | .colorStartup => .colorStartup a r.red r.green r.blue
  | .brightnessStartup => .ledBrightnessStartup a (levelOf r.bright)
  | .startupComplete => .startupComplete a
  | .heartbeat => .heartbeat a
  | .warmupComplete => .warmupComplete a
  | .ledOnConfirm => .ledOnConfirm a
  | .powerDown => .powerDown
  | .color => .color r.red r.green r.blue
  | .colorConfirm => .colorConfirm
  | .ledBrightness => .ledBrightness a (levelOf r.bright)

/-- `Line.instr` is the instruction of `Line.request`. -/
theorem Line.encode_instr (l : Line) (a : Addr) (r : Settings) :
    encode (l.instr a r) = .frame (l.request a r) := by
  cases l <;> rfl

/-- The frame of a line decodes to the line's instruction (R98, R99), by the format of its kind. -/
theorem Line.decodeFrame_request (l : Line) (a : Addr) (r : Settings) :
    decodeFrame (l.request a r) = .ok (l.instr a r) := by
  cases l
  case powerUp | rePowerUp | discover | powerDown | colorConfirm => rfl
  case setAddress =>
    rw [Line.request, decodeFrame, classify_frameBCA]
    · simp [frameBCA, Line.instr]
    · rfl
  case serial1 | serial2 | warmup | startupComplete | heartbeat | warmupComplete | ledOnConfirm =>
    rw [Line.request, decodeFrame, classify_frameREQ]
    · simp [frameREQ, Line.instr]
    · rfl
  case brightnessStartup | ledBrightness =>
    rw [Line.request, decodeFrame, classify_frameREQL]
    · simp [frameREQL, Line.instr]
    · rfl
  case colorStartup =>
    rw [Line.request, decodeFrame, classify_frameREQC]
    · simp [frameREQC, Line.instr]
    · rfl
  case color =>
    rw [Line.request, decodeFrame, classify_frameBCC]
    · simp [frameBCC, Line.instr]
    · rfl

/-- `build` accepts every request a line makes (R122). -/
theorem Line.instr_wellFormed (l : Line) {r : Settings} (hr : r.Legal)
    (ha : l = .setAddress → a ≠ 0) : (l.instr a r).wellFormed = true := by
  obtain ⟨hbright, -⟩ := hr
  have hlevel := levelOf_le hbright
  cases l <;> simp_all [Line.instr, Instr.wellFormed]

/-- The request of a line goes out as it stands in TXBUF (R201). -/
theorem State.AtLine.transmitPass_eq (h : s.AtLine l a .transmitStart)
    (hq : s.seq = .line l a .transmitStart) :
    transmitPass l a s = .next (s.beginTransmit l a s.txbuf) := by
  have hdec := l.decodeFrame_request a s.settings
  obtain ⟨f, hf, hexec⟩ := exec_frame (decodeFrame_kind hdec) s
  have hreq : l.request a s.settings = f := by
    simpa [Line.encode_instr] using hf
  rw [l.instr_wellFormed h.stored.legal h.admits.assigned, frameMeaning_start hq] at hexec
  rw [transmitPass, h.request, hdec]
  simpa only [hreq] using hexec

/-- A step that leaves these registers alone stays at its line; DIR is what the new phase asks. -/
theorem State.AtLine.congr (h : s.AtLine l a ph) (ht : t.Stored) {ph' : Phase}
    (hdir : t.dir = ph'.transmitting) (hal : ph'.allowed l = true)
    (hbusy : t.busy = s.busy := by rfl) (hpower : t.power = s.power := by rfl)
    (hbus : t.busState = s.busState := by rfl) (hreg : t.reg = s.reg := by rfl)
    (hnoresp : t.noresp = s.noresp := by rfl) (htx : t.txbuf = s.txbuf := by rfl)
    (hsettings : t.settings = s.settings := by rfl) : t.AtLine l a ph' := by
  have hrail := h.rail
  obtain ⟨hpresent, hassigned, hstreak⟩ := h.admits
  refine ⟨ht, hbusy.trans h.busy, hdir, ?_, hbus ▸ h.runs, hal, ⟨?_, hassigned, ?_⟩, ?_⟩
  · simpa [State.RailFollowsBus, State.on, hpower, hbus] using hrail
  · rw [hreg]; exact hpresent
  · rw [hnoresp]; exact hstreak
  · rw [htx, hsettings]; exact h.request

/-- The line goes on to a phase with the same DIR. -/
theorem State.AtLine.move_inv (h : s.AtLine l a ph) {ph' : Phase}
    (hd : ph'.transmitting = ph.transmitting) (hal : ph'.allowed l = true) :
    State.Inv { s with seq := .line l a ph' } :=
  (State.inv_line_iff rfl).mpr (h.congr h.stored.congr (h.dir.trans hd.symm) hal)

/-- `Transmit` begins: DIR goes to 1 and the deframer is reset (R201). -/
theorem State.AtLine.beginTransmit_inv (h : s.AtLine l a .transmitStart) :
    (s.beginTransmit l a s.txbuf).Inv :=
  (State.inv_line_iff (ph := .setup) rfl).mpr
    (h.congr (h.stored.withDeframer (d := s.deframer.reset) Deframer.inv_reset).congr rfl rfl)

theorem transmitPass_keepsInv (h : s.Inv) (hq : s.seq = .line l a .transmitStart) :
    KeepsInv (transmitPass l a s) := by
  have hl := (State.inv_line_iff hq).mp h
  rw [hl.transmitPass_eq hq]
  exact keepsInv_next hl.beginTransmit_inv

/-- A byte on the line: the next byte, or the flush (R202). -/
theorem State.AtLine.writeByte_inv {i : Fin 11} (h : s.AtLine l a (.writing i))
    (hq : s.seq = .line l a (.writing i)) (txReady : Bool) : (s.writeByte l a i txReady).Inv := by
  have hnote : (if i = 0 then { s with firstWrite := s.now } else s).AtLine l a (.writing i) := by
    split
    · exact h.congr h.stored.congr h.dir rfl
    · exact h
  unfold State.writeByte
  split
  · extract_lets s1
    split
    · exact hnote.move_inv rfl rfl
    · exact hnote.move_inv rfl rfl
  · exact (State.inv_line_iff hq).mpr h

/-- `Transmit` ends: DIR goes to 0, and an exchange waits or a broadcast pauses (R201, R203, R205). -/
theorem State.AtLine.endTransmit_inv (h : s.AtLine l a .hold) : (s.endTransmit l a).Inv := by
  unfold State.endTransmit
  extract_lets s1
  split
  · next w hw =>
    exact (State.inv_line_iff rfl).mpr
      (h.congr (ph' := .answer) h.stored.congr rfl (by simp [Phase.allowed, hw]))
  · next hw =>
    exact (State.inv_line_iff rfl).mpr
      (h.congr (ph' := .pause) h.stored.congr rfl (by simp [Phase.allowed, hw]))

/-- Between transmits a line's code may run. -/
theorem State.AtLine.running (h : s.AtLine l a ph) (hd : ph.transmitting = false) :
    s.Running l.proc :=
  ⟨h.stored, h.busy, h.dir.trans hd, h.rail, h.runs⟩

/-- The scheduler's own step outside an exchange's wait keeps the invariant (R201, R205, R210). -/
theorem State.advance_inv (h : s.Inv) (txReady txIdle : Bool) : (s.advance txReady txIdle).Inv := by
  unfold State.advance
  split
  · exact h
  · next d hq =>
    split
    · exact ((State.inv_delaying_iff hq).mp h).delayed_inv
    · exact h
  · next l a hq =>
    split
    · exact ((State.inv_line_iff hq).mp h).move_inv rfl rfl
    · exact h
  · next l a i hq => exact ((State.inv_line_iff hq).mp h).writeByte_inv hq txReady
  · next l a hq =>
    split
    · have hl := (State.inv_line_iff hq).mp h
      exact (State.inv_line_iff (ph := .hold) rfl).mpr (hl.congr hl.stored.congr hl.dir rfl)
    · exact h
  · next l a hq =>
    split
    · exact ((State.inv_line_iff hq).mp h).endTransmit_inv
    · exact h
  · next l a hq =>
    split
    · have hl := (State.inv_line_iff hq).mp h
      exact (hl.running rfl).sent_inv (by simpa [Phase.allowed] using hl.allowed)
    · exact h
  · exact h
  · exact h

/-! ## The wait loop of an exchange (R203) -/

theorem State.AtLine.returned_inv (h : s.AtLine l a .answer) {r : Option (MessageKind × Frame)}
    (hr : ValidAnswer r) : (s.returned l a r).Inv :=
  (h.running rfl).returned_inv h.admits h.allowed hr

/-- A frame in the wait loop keeps the invariant, whatever it decodes to. -/
theorem deliver_keepsInv (h : s.Inv) (hq : s.seq = .line l a .answer) (f : Frame) :
    KeepsInv (deliver l a f s) := by
  have hl := (State.inv_line_iff hq).mp h
  unfold deliver
  split
  · next i hd =>
    obtain ⟨g, hg, hexec⟩ := exec_frame (decodeFrame_kind hd) s
    rw [hexec, frameMeaning_answer hq]
    refine keepsInv_next (hl.returned_inv ?_)
    intro f' hf
    obtain ⟨hclass, rfl⟩ : classify f = .startupAck ∧ g = f' := by simpa using hf
    exact frame_startupAck_ne_zero hd (by rw [decodeFrame_kind hd, hclass]) hg
  · exact keepsInv_next (hl.returned_inv nofun)

theorem State.deframe_inv (h : s.Inv) (rx : Option Byte) : (s.deframe rx).1.Inv := by
  obtain ⟨hmem, h0, hd, hlegal, hc⟩ := h
  exact ⟨hmem, h0, Deframer.inv_step hd s.now rx, hlegal, hc⟩

theorem waitPass_keepsInv (h : s.Inv) (hq : s.seq = .line l a .answer) (emitted : Option Frame) :
    KeepsInv (waitPass l a emitted s) := by
  have hpoll := State.deframe_inv h none
  have hpollq : (s.deframe none).1.seq = .line l a .answer := hq
  unfold waitPass
  split
  · exact deliver_keepsInv h hq _
  · split
    next s1 out heq =>
    rw [heq] at hpoll hpollq
    split
    · exact deliver_keepsInv hpoll hpollq _
    · have hl := (State.inv_line_iff hpollq).mp hpoll
      split
      · refine keepsInv_next (State.AtLine.returned_inv ?_ nofun)
        exact hl.congr hl.stored.congr hl.dir hl.allowed
      · exact keepsInv_next hpoll

/-! ## One clock (R271) -/

theorem State.dropStale_inv (h : s.Inv) (emitted : Option Frame) : (s.dropStale emitted).Inv := by
  cases emitted with
  | none => exact h
  | some f => exact h

theorem State.dropStale_seq (s : State) (emitted : Option Frame) :
    (s.dropStale emitted).seq = s.seq := by
  cases emitted <;> rfl

theorem schedulerStep_keepsInv (h : s.Inv) (txReady txIdle : Bool) (emitted : Option Frame) :
    KeepsInv (schedulerStep txReady txIdle emitted s) := by
  have hdrop := State.dropStale_inv h emitted
  unfold schedulerStep
  split
  · next hq => exact waitPass_keepsInv h hq emitted
  · next hq => exact transmitPass_keepsInv hdrop ((s.dropStale_seq emitted).trans hq)
  all_goals exact keepsInv_next (State.advance_inv hdrop txReady txIdle)

theorem State.receiveByte_inv (h : s.Inv) (rx : Option Byte) : (s.receiveByte rx).1.Inv := by
  unfold State.receiveByte
  split
  · split
    · exact h
    · exact State.deframe_inv h _
  · exact h

/-- The registers after reset meet the invariant (R290). -/
theorem State.resetRegisters_inv (s : State) : s.resetRegisters.Inv := by
  have hreset : State.reset.Inv := by decide
  exact hreset

theorem clock_keepsInv (h : s.Inv) (c : Clock) : KeepsInv (clock c s) := by
  cases hr : c.rst with
  | true =>
    rw [clock, if_pos hr]
    exact keepsInv_next s.resetRegisters_inv
  | false =>
    have hbyte := State.receiveByte_inv h c.rx
    intro t ht
    rw [clock, if_neg (by simp [hr])] at ht
    dsimp only at ht
    split at ht
    · next u hu =>
      exact acceptStep_keepsInv (schedulerStep_keepsInv hbyte _ _ _ u hu) c.cmd t ht
    · cases ht
    · cases ht

/-- Settles O53: the received byte, the scheduler's step and command acceptance keep the invariant one
after the other, and sampling the inputs touches no register. -/
theorem stepKeepsInvariant : Obligations.StepKeepsInvariant := by
  unfold Obligations.StepKeepsInvariant
  intro s t h hstep
  have hsample : (s.sample s.nextClock.1 s.nextClock.2).Inv := h
  exact clock_keepsInv hsample s.nextClock.1 t hstep

end Sys2Proof.Machine

/-! SUPPORT. Proofs of the codec's statements: which parameters `build` refuses (R122), told apart by the
format of the kind (R92), and what the printable filter does to a serial fragment (R124, R125). -/

namespace Sys2Proof

-- As in the proofs of the state's statements: no elaborating threads beside those still running.
set_option Elab.async false

/-! ## Kinds that the refusals name, by their format -/

theorem MessageKind.eq_unknown_iff (k : MessageKind) : k = .unknown ↔ k.format = none := by
  cases k <;> decide

theorem MessageKind.eq_setAddress_iff (k : MessageKind) : k = .setAddress ↔ k.format = some .bca := by
  cases k <;> decide

/-- Format RSPI has two kinds, and only StartupAck takes an address (R143, R144). -/
theorem MessageKind.eq_startupAck_iff (k : MessageKind) :
    k = .startupAck ↔ k.format = some .rspi ∧ k ≠ .startupAckUnaddressed := by
  cases k <;> decide

/-! ## When a parameter is refused -/

theorem BuildParams.address_eq_none_iff (p : BuildParams) (low : Byte) :
    p.address low = none ↔ p.addr = none ∨ ∃ a, p.addr = some a ∧ (0x1F < a ∨ a < low) := by
  unfold BuildParams.address
  cases p.addr with
  | none => simp
  | some a =>
    have hout : (low ≤ a → 0x1F < a) ↔ 0x1F < a ∨ a < low := by bv_omega
    simpa using hout

/-- Where address 0 is accepted, a refused address is missing or above 0x1F. -/
theorem BuildParams.address_zero_eq_none_iff (p : BuildParams) :
    p.address 0 = none ↔ p.addr = none ∨ ∃ a, p.addr = some a ∧ 0x1F < a := by
  have hlow : ∀ a : Byte, ¬ a < 0 := fun a => by bv_omega
  simp only [p.address_eq_none_iff, hlow, or_false]

/-- Where address 0 is not accepted (SetAddress, StartupAck). -/
theorem BuildParams.address_one_eq_none_iff (p : BuildParams) :
    p.address 1 = none ↔ p.addr = none ∨ ∃ a, p.addr = some a ∧ (0x1F < a ∨ a = 0) := by
  have hlow : ∀ a : Byte, a < 1 ↔ a = 0 := fun a => by bv_omega
  simp only [p.address_eq_none_iff, hlow]

theorem BuildParams.legalLevel_eq_none_iff (p : BuildParams) :
    p.legalLevel = none ↔ p.level = none ∨ ∃ l, p.level = some l ∧ 100 < l := by
  unfold BuildParams.legalLevel
  cases p.level with
  | none => simp
  | some l => simp

/-- A frame of two parameters is refused when either of them is. -/
theorem bind_map_eq_none_iff {α β γ : Type} {x : Option α} {y : Option β} {g : α → β → γ} :
    (x.bind fun a => y.map (g a)) = none ↔ x = none ∨ y = none := by
  cases x <;> simp

/-! ## When `build` refuses, format by format (R122) -/

section
variable {k : MessageKind} (p : BuildParams)

theorem build_ne_none_of_unparametrised (hf : k.format = some .sys ∨ k.format = some .bc) :
    build k p ≠ none := by
  rcases hf with hf | hf <;> simp [build, hf]

theorem build_eq_none_iff_of_bcc (hf : k.format = some .bcc) : build k p = none ↔ p.rgb = none := by
  simp [build, hf]

theorem build_eq_none_iff_of_bca (hf : k.format = some .bca) :
    build k p = none ↔ p.address 1 = none := by
  simp [build, hf]

theorem build_eq_none_iff_of_req_or_rspa (hf : k.format = some .req ∨ k.format = some .rspa) :
    build k p = none ↔ p.address 0 = none := by
  rcases hf with hf | hf <;> simp [build, hf]

theorem build_eq_none_iff_of_reql (hf : k.format = some .reql) :
    build k p = none ↔ p.address 0 = none ∨ p.legalLevel = none := by
  simp only [build, hf, bind_map_eq_none_iff]

theorem build_eq_none_iff_of_reqc (hf : k.format = some .reqc) :
    build k p = none ↔ p.address 0 = none ∨ p.rgb = none := by
  simp only [build, hf, bind_map_eq_none_iff]

theorem build_eq_none_iff_of_rspi (hf : k.format = some .rspi) :
    build k p = none ↔ k ≠ .startupAckUnaddressed ∧ p.address 1 = none := by
  by_cases hk : k = .startupAckUnaddressed
  · subst hk
    simp [build, hf]
  · simp [build, hf, hk]

theorem build_eq_none_iff_of_rsps (hf : k.format = some .rsps) :
    build k p = none ↔ p.serial = none := by
  simp [build, hf]

end

/-- Settles O4: the kinds the statement names are given by their formats, so that in each format only the
refusals of its own parameters are left. -/
theorem buildRefusedExactly : Obligations.BuildRefusedExactly := by
  unfold Obligations.BuildRefusedExactly
  intro k p
  simp only [k.eq_unknown_iff, k.eq_setAddress_iff, k.eq_startupAck_iff]
  cases hf : k.format with
  | none => simp [build, hf]
  | some fmt =>
    cases fmt with
    | sys => simpa using build_ne_none_of_unparametrised p (.inl hf)
    | bc => simpa using build_ne_none_of_unparametrised p (.inr hf)
    | bcc => simpa using build_eq_none_iff_of_bcc p hf
    | bca => rw [build_eq_none_iff_of_bca p hf, p.address_one_eq_none_iff]; simp
    | req => rw [build_eq_none_iff_of_req_or_rspa p (.inl hf), p.address_zero_eq_none_iff]; simp
    | reql =>
      rw [build_eq_none_iff_of_reql p hf, p.address_zero_eq_none_iff, p.legalLevel_eq_none_iff]; simp
    | reqc => rw [build_eq_none_iff_of_reqc p hf, p.address_zero_eq_none_iff]; simp
    | rspa => rw [build_eq_none_iff_of_req_or_rspa p (.inr hf), p.address_zero_eq_none_iff]; simp
    | rspi =>
      rw [build_eq_none_iff_of_rspi p hf, p.address_one_eq_none_iff]
      by_cases hk : k = .startupAckUnaddressed <;> simp [hk]
    | rsps => simpa using build_eq_none_iff_of_rsps p hf

/-! ## The printable filter and the serial fragment (R124, R125) -/

theorem printable_eq_ite_toNat (b : Byte) :
    printable b = if 32 ≤ b.toNat ∧ b.toNat ≤ 126 then b else 0x2E := by
  simp [printable, BitVec.le_def]

theorem serialFragment_getElem (f : Frame) (i : Nat) (h : i < 8) :
    (serialFragment f)[i] = printable f[i + 3] := by
  match i, h with
  | 0, _ | 1, _ | 2, _ | 3, _ | 4, _ | 5, _ | 6, _ | 7, _ => rfl

/-- Settles O9: the filter compares its byte as a number, and the fragment filters each of F[3..10]. -/
theorem serialFragmentIsFiltered : Obligations.SerialFragmentIsFiltered := by
  unfold Obligations.SerialFragmentIsFiltered
  exact ⟨printable_eq_ite_toNat, serialFragment_getElem⟩

end Sys2Proof

/-! SUPPORT. Proofs of the deframer's statements: first what the step of R171 is in each case, said once
(the gap rule, then the byte where no boundary is due); then the rules themselves, what an emitted frame
looks like, and the run over a fed frame. -/

namespace Sys2Proof.Machine

-- As in the proofs of the state's statements: no elaborating threads beside those still running.
set_option Elab.async false

/-! ## The gap rule, part (1) of R171 -/

theorem Deframer.gapOver_iff {d : Deframer} {now : Word32} :
    d.gapOver now = true ↔ d.cnt ≠ 0 ∧ 8 < now - d.tLast := by
  rw [Deframer.gapOver, Bool.and_eq_true, decide_eq_true_iff, decide_eq_true_iff]
  rfl

theorem Deframer.gap_of_closed {d : Deframer} {now : Word32}
    (h : d.cnt = 0 ∨ now - d.tLast ≤ 8) : d.gap now = (d, none, []) := by
  have hover : ¬ d.gapOver now = true := by
    rw [Deframer.gapOver_iff]
    rintro ⟨h0, hlt⟩
    exact h.elim h0 (BitVec.not_le.mpr hlt)
  simp [Deframer.gap, hover]

theorem Deframer.gap_of_full {d : Deframer} {now : Word32} (hc : d.cnt = 11)
    (hlt : 8 < now - d.tLast) : d.gap now = (d.reset, some d.buf, []) := by
  have hover : d.gapOver now = true := Deframer.gapOver_iff.mpr ⟨by simp [hc], hlt⟩
  simp [Deframer.gap, hover, hc]

theorem Deframer.gap_of_short {d : Deframer} {now : Word32} (h0 : d.cnt ≠ 0)
    (hlt : 8 < now - d.tLast) (hc : d.cnt ≠ 11) :
    d.gap now = (d.reset, none, [⟨.partialFrame, d.cnt.setWidth 8⟩]) := by
  have hover : d.gapOver now = true := Deframer.gapOver_iff.mpr ⟨h0, hlt⟩
  rw [Deframer.gap, if_pos hover, if_neg hc]

theorem Deframer.gap_fst_of_over {d : Deframer} {now : Word32} (h0 : d.cnt ≠ 0)
    (hlt : 8 < now - d.tLast) : (d.gap now).1 = d.reset := by
  by_cases hc : d.cnt = 11
  · rw [Deframer.gap_of_full hc hlt]
  · rw [Deframer.gap_of_short h0 hlt hc]

/-! ## One step: the gap rule, then the byte -/

theorem Deframer.step_none (d : Deframer) (now : Word32) : d.step now none = d.gap now := rfl

theorem Deframer.step_some (d : Deframer) (now : Word32) (b : Byte) :
    d.step now (some b) =
      (((d.gap now).1.byte now b).1, (d.gap now).2.1,
        (d.gap now).2.2 ++ ((d.gap now).1.byte now b).2) := rfl

theorem Deframer.step_some_of_closed {d : Deframer} {now : Word32}
    (h : d.cnt = 0 ∨ now - d.tLast ≤ 8) (b : Byte) :
    d.step now (some b) = ((d.byte now b).1, none, (d.byte now b).2) := by
  simp [Deframer.step_some, Deframer.gap_of_closed h]

/-- At a boundary the byte meets the deframer that the gap rule has emptied. -/
theorem Deframer.step_some_of_over {d : Deframer} {now : Word32} (h0 : d.cnt ≠ 0)
    (hlt : 8 < now - d.tLast) (b : Byte) :
    d.step now (some b) =
      ((d.reset.step now (some b)).1, (d.step now none).2.1,
        (d.step now none).2.2 ++ (d.reset.step now (some b)).2.2) := by
  rw [Deframer.step_some_of_closed (d := d.reset) (.inl rfl), Deframer.step_some,
    Deframer.step_none, Deframer.gap_fst_of_over h0 hlt]

/-- Settles O11: the poll step is the gap rule, and at a boundary a byte step is the gap rule and then a
step of the emptied deframer. -/
theorem deframerGapRule : Obligations.DeframerGapRule := by
  unfold Obligations.DeframerGapRule
  intro d now
  refine ⟨?full, ?fewer, ?closed, ?byte⟩
  case full => exact fun _ hlt hc => Deframer.gap_of_full hc hlt
  case fewer => exact Deframer.gap_of_short
  case closed => exact Deframer.gap_of_closed
  case byte => exact fun b h0 hlt => Deframer.step_some_of_over h0 hlt b

/-! ## The byte, part (2) of R171 -/

theorem Deframer.idleByte_sync (d : Deframer) (now : Word32) :
    d.idleByte now sync = (d.start now sync, []) := by
  simp [Deframer.idleByte]

theorem Deframer.idleByte_other (d : Deframer) (now : Word32) {b : Byte} (hb : b ≠ sync) :
    d.idleByte now b = (d, [⟨.noSync, b⟩]) := by
  simp [Deframer.idleByte, hb]

theorem Deframer.byte_of_idle {d : Deframer} (h0 : d.cnt = 0) (now : Word32) (b : Byte) :
    d.byte now b = d.idleByte now b := by
  simp [Deframer.byte, h0]

theorem Deframer.byte_of_full {d : Deframer} (hc : d.cnt = 11) (now : Word32) (b : Byte) :
    d.byte now b = ((d.reset.idleByte now b).1, ⟨.overflow, 11⟩ :: (d.reset.idleByte now b).2) := by
  simp [Deframer.byte, hc]

theorem Deframer.byte_resync {d : Deframer} (h0 : d.cnt ≠ 0) (hc : d.cnt ≠ 11) (now : Word32) :
    d.byte now sync = (d.start now sync, [⟨.resync, d.cnt.setWidth 8⟩]) := by
  rw [Deframer.byte, if_neg hc, if_neg h0, if_pos rfl]

theorem Deframer.byte_append {d : Deframer} (h0 : d.cnt ≠ 0) (hc : d.cnt ≠ 11) (now : Word32)
    {b : Byte} (hb : b ≠ sync) : d.byte now b = (d.append now b, []) := by
  rw [Deframer.byte, if_neg hc, if_neg h0, if_neg hb]

theorem Deframer.append_of_lt {d : Deframer} (h : d.cnt.toNat < 11) (now : Word32) (b : Byte) :
    d.append now b = { buf := d.buf.set d.cnt.toNat b h, cnt := d.cnt + 1, tLast := now } := by
  have hset : d.buf.setIfInBounds d.cnt.toNat b = d.buf.set d.cnt.toNat b h :=
    Vector.ext fun i hi => by rw [Vector.getElem_setIfInBounds, Vector.getElem_set]
  rw [Deframer.append, hset]

/-- Settles O12: with no boundary due the step is the byte alone, which the count and the sync byte tell
apart. -/
theorem deframerByteRules : Obligations.DeframerByteRules := by
  unfold Obligations.DeframerByteRules
  intro d now b hclosed
  rw [Deframer.step_some_of_closed hclosed b]
  refine ⟨?start, ?drop, ?resync, ?append, ?overflowStart, ?overflowDrop⟩
  case start =>
    rintro h0 rfl
    rw [Deframer.byte_of_idle h0, ← sync, Deframer.idleByte_sync]
    rfl
  case drop =>
    intro h0 hb
    rw [Deframer.byte_of_idle h0, Deframer.idleByte_other d now hb]
  case resync =>
    rintro h0 hc rfl
    rw [← sync, Deframer.byte_resync h0 hc]
    rfl
  case append =>
    intro hlt h0 hb
    have hc : d.cnt ≠ 11 := fun hc => by simp [hc] at hlt
    rw [Deframer.byte_append h0 hc now hb, Deframer.append_of_lt hlt]
  case overflowStart =>
    rintro hc rfl
    rw [Deframer.byte_of_full hc, ← sync, Deframer.idleByte_sync]
    rfl
  case overflowDrop =>
    intro hc hb
    rw [Deframer.byte_of_full hc, Deframer.idleByte_other d.reset now hb]
    rfl

/-! ## The invariant and what is emitted (R182) -/

/-- Settles O13: the invariant is kept by `inv_step`; what a step emits is the whole buffer at a boundary,
to which the invariant at a count of eleven applies. -/
theorem deframerKeepsInvariant : Obligations.DeframerKeepsInvariant := by
  unfold Obligations.DeframerKeepsInvariant
  intro d now rx hinv
  refine ⟨Deframer.inv_step hinv now rx, fun f hf => ?_⟩
  obtain ⟨hover, hc, rfl⟩ := Deframer.step_emits hf
  obtain ⟨-, hsync, hrest⟩ := hinv
  exact ⟨hsync (by simp [hc]), fun i hi => hrest i hi (by simp [hc]),
    (Deframer.gapOver_iff.mp hover).2⟩

/-! ## The received byte -/

/-- Settles O15: DIR alone decides, and a received byte is one deframer step and its diagnostics. -/
theorem receivedByteTouchesDeframerOnly : Obligations.ReceivedByteTouchesDeframerOnly := by
  unfold Obligations.ReceivedByteTouchesDeframerOnly
  intro s b
  constructor
  · intro hdir
    simp [State.receiveByte, hdir]
  · intro hdir
    simp [State.receiveByte, State.deframe, hdir]

/-! ## A fed frame (R171, R182) -/

theorem Deframer.run_append (d : Deframer) (xs ys : List (Word32 × Option Byte)) :
    d.run (xs ++ ys) =
      (((d.run xs).1.run ys).1, (d.run xs).2.1 ++ ((d.run xs).1.run ys).2.1,
        (d.run xs).2.2 ++ ((d.run xs).1.run ys).2.2) := by
  induction xs generalizing d with
  | nil => simp [Deframer.run]
  | cons x xs ih => simp [Deframer.run, ih]

theorem Deframer.run_singleton (d : Deframer) (now : Word32) (rx : Option Byte) :
    d.run [(now, rx)] =
      ((d.step now rx).1, (d.step now rx).2.1.toList, (d.step now rx).2.2) := by
  simp [Deframer.run]

theorem gapsClosed_getElem {l : List Word32} (h : gapsClosed l = true) (i : Nat)
    (hi : i + 1 < l.length) : l[i + 1] - l[i] ≤ 8 := by
  induction l generalizing i with
  | nil => simp at hi
  | cons t l ih =>
    cases l with
    | nil => simp at hi
    | cons u rest =>
      obtain ⟨hgap, hrest⟩ : sub32 u t ≤ 8 ∧ gapsClosed (u :: rest) = true := by
        simpa [gapsClosed] using h
      cases i with
      | zero => exact hgap
      | succ i => exact ih hrest i (by simpa using hi)

/-- The timed byte steps in which `f` is fed at the times `ts`. -/
def fedSteps (f : Frame) (ts : Vector Word32 11) : List (Word32 × Option Byte) :=
  (ts.toList.zip f.toList).map fun p => (p.1, some p.2)

@[simp] theorem fedSteps_length (f : Frame) (ts : Vector Word32 11) :
    (fedSteps f ts).length = 11 := by
  simp [fedSteps]

theorem fedSteps_getElem (f : Frame) (ts : Vector Word32 11) (n : Nat) (h : n < 11) :
    (fedSteps f ts)[n]'(by simpa using h) = (ts[n], some f[n]) := by
  simp [fedSteps]

/-- The deframer holds the first `n` bytes of `f`, the last of them received at `t`. -/
structure Deframer.Holds (d : Deframer) (f : Frame) (n : Nat) (t : Word32) : Prop where
  cnt : d.cnt.toNat = n
  tLast : d.tLast = t
  buf : ∀ i (h : i < 11), i < n → d.buf[i] = f[i]

theorem Deframer.holds_start (d : Deframer) {f : Frame} (h : f[0] = sync) (t : Word32) :
    (d.start t sync).Holds f 1 t := by
  refine ⟨rfl, rfl, fun i hi h1 => ?_⟩
  obtain rfl : i = 0 := by omega
  simp [Deframer.start, h]

theorem Deframer.Holds.append {d : Deframer} {f : Frame} {n : Nat} {t : Word32} (h : d.Holds f n t)
    (hn : n < 11) (now : Word32) : (d.append now f[n]).Holds f (n + 1) now := by
  obtain ⟨rfl, -, hbuf⟩ := h
  rw [Deframer.append_of_lt hn]
  refine ⟨by simp only; bv_omega, rfl, fun i hi hlt => ?_⟩
  rw [Vector.getElem_set]
  split
  · next he => simp [he]
  · next hne => exact hbuf i hi (by omega)

theorem Deframer.Holds.eq_of_full {d : Deframer} {f : Frame} {t : Word32} (h : d.Holds f 11 t) :
    d = { buf := f, cnt := 11, tLast := t } := by
  obtain ⟨buf, cnt, tLast⟩ := d
  obtain ⟨hcnt, rfl, hbuf⟩ := h
  have hc : cnt = 11 := BitVec.eq_of_toNat_eq hcnt
  have hb : buf = f := Vector.ext fun i hi => hbuf i hi hi
  rw [hc, hb]

/-- The next byte of the frame, in time, is appended and nothing is emitted. -/
theorem Deframer.Holds.step {d : Deframer} {f : Frame} {n : Nat} {t now : Word32}
    (h : d.Holds f n t) (h0 : n ≠ 0) (hn : n < 11) (hb : f[n] ≠ sync) (hgap : now - t ≤ 8) :
    ∃ e, d.step now (some f[n]) = (e, none, []) ∧ e.Holds f (n + 1) now := by
  have hc0 : d.cnt ≠ 0 := fun hc => h0 (by simp [← h.cnt, hc])
  have hc11 : d.cnt ≠ 11 := fun hc => hn.ne (by simp [← h.cnt, hc])
  have hclosed : now - d.tLast ≤ 8 := h.tLast ▸ hgap
  exact ⟨_, by rw [Deframer.step_some_of_closed (.inr hclosed), Deframer.byte_append hc0 hc11 now hb],
    h.append hn now⟩

theorem Deframer.run_take_fedSteps_holds {d : Deframer} {f : Frame} {ts : Vector Word32 11}
    (h0 : d.cnt = 0) (hsync : f[0] = sync) (hrest : ∀ i (h : i < 11), 1 ≤ i → f[i] ≠ sync)
    (hgaps : gapsClosed ts.toList = true) (n : Nat) (hn : n < 11) :
    ∃ e, d.run ((fedSteps f ts).take (n + 1)) = (e, [], []) ∧ e.Holds f (n + 1) ts[n] := by
  induction n with
  | zero =>
    refine ⟨d.start ts[0] sync, ?_, d.holds_start hsync ts[0]⟩
    rw [List.take_succ_eq_append_getElem (by simp), fedSteps_getElem f ts 0 hn, hsync,
      List.take_zero, List.nil_append, Deframer.run_singleton,
      Deframer.step_some_of_closed (.inl h0), Deframer.byte_of_idle h0, Deframer.idleByte_sync]
    rfl
  | succ n ih =>
    obtain ⟨e, hrun, hholds⟩ := ih (by omega)
    have hgap : ts[n + 1] - ts[n] ≤ 8 := by
      have hle := gapsClosed_getElem hgaps n (by simpa using hn)
      rwa [Vector.getElem_toList, Vector.getElem_toList] at hle
    obtain ⟨e', hstep, hholds'⟩ :=
      hholds.step (Nat.succ_ne_zero n) hn (hrest (n + 1) hn (by omega)) hgap
    refine ⟨e', ?_, hholds'⟩
    rw [List.take_succ_eq_append_getElem (by simpa using hn), fedSteps_getElem f ts (n + 1) hn,
      Deframer.run_append, hrun, Deframer.run_singleton, hstep]
    rfl

/-- Settles O14: after the eleven byte steps the deframer holds the whole frame, by induction on the bytes
fed, and the step after the gap emits it. -/
theorem deframerEmitsFedFrame : Obligations.DeframerEmitsFedFrame := by
  unfold Obligations.DeframerEmitsFedFrame
  intro d f ts now h0 hsync hrest hgaps hlast
  obtain ⟨e, hrun, hholds⟩ :=
    Deframer.run_take_fedSteps_holds h0 hsync (fun i h h1 => hrest ⟨i, h⟩ h1) hgaps 10 (by omega)
  obtain rfl := hholds.eq_of_full
  rw [List.take_of_length_le (by simp)] at hrun
  rw [← fedSteps, Deframer.run_append, hrun, Deframer.run_singleton, Deframer.step_none,
    Deframer.gap_of_full rfl hlast]
  rfl

end Sys2Proof.Machine

/-! SUPPORT. Proofs of the statements about the bus primitives: what a frame instruction does at each place
of SEQ; the events of one clock; the lines of `Transmit`, phase by phase; the wait loop; and the run of a
whole `Transmit` under the default clock (log 2), each of its three waits by `State.WaitsFor`. -/

namespace Sys2Proof.Machine

-- As in the proofs of the state's statements: no elaborating threads beside those still running.
set_option Elab.async false

variable {s t u : State} {l : Line} {a : Addr} {ph : Phase}

/-! ## A frame where a line is about to transmit, and anywhere else -/

/-- An instruction whose packet is a frame is run by `frameMeaning` on that frame. -/
theorem exec_of_encode_frame {i : Instr} {f : Frame} (h : encode i = .frame f) (s : State) :
    ∃ k, exec i s = frameMeaning i.wellFormed k f s := by
  rcases kind_or_code i with ⟨k, hk⟩ | ⟨c, hc⟩
  · obtain ⟨g, hg, hexec⟩ := exec_frame hk s
    obtain rfl : g = f := Packet.frame.inj (hg.symm.trans h)
    exact ⟨k, hexec⟩
  · cases i <;> cases hc <;> cases h

theorem frameMeaning_refused (h : s.seq = .line l a .transmitStart) (k : MessageKind) (f : Frame) :
    frameMeaning false k f s = .next s := by
  simp [frameMeaning, h]

theorem frameMeaning_elsewhere
    (h : ∀ l a, s.seq ≠ .line l a .transmitStart ∧ s.seq ≠ .line l a .answer)
    (legal : Bool) (k : MessageKind) (f : Frame) :
    frameMeaning legal k f s = .next (s.raise .stale k.id) := by
  rcases frameMeaning_cases legal k f s with ⟨l, a, hq, -⟩ | ⟨l, a, hq, -⟩ | ⟨-, heq⟩
  · exact absurd hq (h l a).1
  · exact absurd hq (h l a).2
  · exact heq

/-- Settles O18: the frame of the instruction goes to `frameMeaning`, which begins its transmit, or does
nothing where `build` refuses. -/
theorem transmitPutsFrameOnLine : Obligations.TransmitPutsFrameOnLine := by
  unfold Obligations.TransmitPutsFrameOnLine
  intro i f l a s henc hq
  obtain ⟨k, hexec⟩ := exec_of_encode_frame henc s
  constructor
  · intro hwf
    rw [hexec, hwf, frameMeaning_start hq]
    rfl
  · intro hwf
    rw [hexec, hwf, frameMeaning_refused hq]

/-! ## The events of one clock (R271) -/

theorem receiveByte_txbuf (s : State) (rx : Option Byte) : (s.receiveByte rx).1.txbuf = s.txbuf := by
  unfold State.receiveByte
  split
  · split <;> rfl
  · rfl

@[simp] theorem State.dropStale_none (s : State) : s.dropStale none = s := rfl

theorem State.dropStale_busy (s : State) (e : Option Frame) : (s.dropStale e).busy = s.busy := by
  cases e <;> rfl

theorem State.dropStale_txbuf (s : State) (e : Option Frame) :
    (s.dropStale e).txbuf = s.txbuf := by
  cases e <;> rfl

theorem schedulerStep_answer (h : s.seq = .line l a .answer) (txReady txIdle : Bool)
    (e : Option Frame) : schedulerStep txReady txIdle e s = waitPass l a e s := by
  simp [schedulerStep, h]

theorem schedulerStep_start (h : s.seq = .line l a .transmitStart) (txReady txIdle : Bool)
    (e : Option Frame) :
    schedulerStep txReady txIdle e s = transmitPass l a (s.dropStale e) := by
  simp [schedulerStep, h]

theorem schedulerStep_elsewhere
    (h : ∀ l a, s.seq ≠ .line l a .transmitStart ∧ s.seq ≠ .line l a .answer)
    (txReady txIdle : Bool) (e : Option Frame) :
    schedulerStep txReady txIdle e s = .next ((s.dropStale e).advance txReady txIdle) := by
  unfold schedulerStep
  split
  · next l a hq => exact absurd hq (h l a).2
  · next l a hq => exact absurd hq (h l a).1
  all_goals rfl

/-- Outside the wait of an exchange the frame of the byte step is first dropped, and then the scheduler
does what it does without one (R206). -/
theorem schedulerStep_dropStale (h : ∀ l a, s.seq ≠ .line l a .answer) (txReady txIdle : Bool)
    (e : Option Frame) :
    schedulerStep txReady txIdle e s = schedulerStep txReady txIdle none (s.dropStale e) := by
  by_cases hstart : ∃ l a, s.seq = .line l a .transmitStart
  · obtain ⟨l, a, hq⟩ := hstart
    rw [schedulerStep_start hq, schedulerStep_start ((s.dropStale_seq e).trans hq),
      State.dropStale_none]
  · push Not at hstart
    have hs : ∀ l a, s.seq ≠ .line l a .transmitStart ∧ s.seq ≠ .line l a .answer :=
      fun l a => ⟨hstart l a, h l a⟩
    rw [schedulerStep_elsewhere hs, schedulerStep_elsewhere (by rwa [State.dropStale_seq]),
      State.dropStale_none]

/-- In a clock, too: it goes on without the byte (R262). -/
theorem clock_dropStale {c : Clock} {e : Option Frame} (hrst : c.rst = false)
    (hrx : s.receiveByte c.rx = (t, e)) (hq : ∀ l a, t.seq ≠ .line l a .answer) :
    clock c s = clock { c with rx := none } (t.dropStale e) := by
  have hsched := schedulerStep_dropStale hq c.txReady c.txIdle e
  simp only [clock, hrst, hrx, hsched]
  rfl

/-- Settles O19: by the place of the frame as an instruction, and in a clock because the scheduler's step
sees the frame only where it is dropped. -/
theorem frameOutsideWaitIsStale : Obligations.FrameOutsideWaitIsStale := by
  unfold Obligations.FrameOutsideWaitIsStale
  constructor
  · intro i k s hk hq
    obtain ⟨f, -, hexec⟩ := exec_frame hk s
    rw [hexec, frameMeaning_elsewhere hq]
    rfl
  · intro s s2 f hrst hq hrx
    have hseq := (receiveByte_seq_busy (s.sample s.nextClock.1 s.nextClock.2) s.nextClock.1.rx).1
    rw [hrx] at hseq
    exact clock_dropStale hrst hrx fun l a => by rw [hseq]; exact hq l a

/-! ## The lines that wait (R201, R202, R205, R210), by phase -/

theorem State.advance_idle (h : s.seq = .idle) (txReady txIdle : Bool) :
    s.advance txReady txIdle = s := by
  simp only [State.advance, h]

theorem State.advance_setup (h : s.seq = .line l a .setup) (txReady txIdle : Bool) :
    s.advance txReady txIdle =
      if s.waitOver then { s with seq := .line l a (.writing 0) } else s := by
  simp only [State.advance, h]

theorem State.advance_writing {i : Fin 11} (h : s.seq = .line l a (.writing i))
    (txReady txIdle : Bool) : s.advance txReady txIdle = s.writeByte l a i txReady := by
  simp only [State.advance, h]

theorem State.advance_flush (h : s.seq = .line l a .flush) (txReady txIdle : Bool) :
    s.advance txReady txIdle =
      if txIdle then { s.startWait s.params.dirHold with seq := .line l a .hold } else s := by
  simp only [State.advance, h]

theorem State.advance_hold (h : s.seq = .line l a .hold) (txReady txIdle : Bool) :
    s.advance txReady txIdle = if s.waitOver then s.endTransmit l a else s := by
  simp only [State.advance, h]

theorem State.advance_pause (h : s.seq = .line l a .pause) (txReady txIdle : Bool) :
    s.advance txReady txIdle = if s.waitOver then s.sent l else s := by
  simp only [State.advance, h]

theorem State.advance_delaying {d : DelayLine} (h : s.seq = .delaying d) (txReady txIdle : Bool) :
    s.advance txReady txIdle = if s.waitOver then s.delayed d else s := by
  simp only [State.advance, h]

theorem State.writeByte_held (s : State) (l : Line) (a : Addr) (i : Fin 11) :
    s.writeByte l a i false = s := rfl

theorem State.writeByte_first (s : State) (l : Line) (a : Addr) :
    s.writeByte l a 0 true = { s with firstWrite := s.now, seq := .line l a (.writing 1) } := rfl

theorem State.writeByte_later {i j : Fin 11} (h0 : i ≠ 0) (hj : j.val = i.val + 1) :
    s.writeByte l a i true = { s with seq := .line l a (.writing j) } := by
  have hlt : i.val + 1 < 11 := hj ▸ j.isLt
  obtain rfl : j = ⟨i.val + 1, hlt⟩ := Fin.ext hj
  simp [State.writeByte, h0, hlt]

theorem State.writeByte_last (s : State) (l : Line) (a : Addr) :
    s.writeByte l a 10 true = { s with seq := .line l a .flush } := rfl

theorem State.txOut_writing {i : Fin 11} (h : s.seq = .line l a (.writing i)) :
    s.txOut = some (s.txbuf.get i) := by
  simp only [State.txOut, h]

/-- DIR is 0 again, and the window of an exchange or the gap of a broadcast opens (R201, R203, R205). -/
theorem State.endTransmit_eq (s : State) (l : Line) (a : Addr) :
    s.endTransmit l a =
      { s with
        dir := false
        waitT0 := s.now
        waitTmo := l.window.getD s.params.txGap
        seq := .line l a (if l.window.isSome then .answer else .pause) } := by
  unfold State.endTransmit
  cases l.window <;> rfl

/-- A clock without `rst` outside the start of a transmit and the wait of an exchange. -/
theorem step_elsewhere {e : Option Frame} (hrst : s.nextClock.1.rst = false)
    (hq : ∀ l a, s.seq ≠ .line l a .transmitStart ∧ s.seq ≠ .line l a .answer)
    (hrx : (s.sample s.nextClock.1 s.nextClock.2).receiveByte s.nextClock.1.rx = (t, e)) :
    step s = acceptStep s.nextClock.1.cmd
      ((t.dropStale e).advance s.nextClock.1.txReady s.nextClock.1.txIdle) := by
  have hseq : t.seq = s.seq := by
    simpa [hrx] using
      (receiveByte_seq_busy (s.sample s.nextClock.1 s.nextClock.2) s.nextClock.1.rx).1
  exact clock_events hrst hrx (schedulerStep_elsewhere (by rwa [hseq]) _ _ e)

/-- Settles O21: each line by the lemma about its phase, the clock by `step_elsewhere`. -/
theorem transmitLines : Obligations.TransmitLines := by
  unfold Obligations.TransmitLines
  refine ⟨⟨rfl, rfl, by decide, by decide⟩, ?_, fun s s2 e => step_elsewhere⟩
  intro l a s ready idle
  refine ⟨fun hq => State.advance_setup hq ready idle, ?_, ?_, ?_, ?_,
    fun hq => State.advance_pause hq ready idle, fun d hq => State.advance_delaying hq ready idle⟩
  · intro i hq
    simp only [State.advance_writing hq]
    refine ⟨State.txOut_writing hq, s.writeByte_held l a i, ?_, ?_, ?_⟩
    · rintro rfl
      exact s.writeByte_first l a
    · exact fun j h0 hj => State.writeByte_later h0 hj
    · rintro rfl
      exact s.writeByte_last l a
  · exact fun hq => ⟨State.advance_flush hq ready true, State.advance_flush hq ready false⟩
  · intro hq hover
    rw [State.advance_hold hq, if_pos hover, State.endTransmit_eq]
    constructor
    · intro t hw
      simp [hw]
    · intro hw
      simp [hw]
  · intro hq hover
    rw [State.advance_hold hq, if_neg (by simp [hover])]

/-! ## One pass of the wait loop (R203) -/

theorem State.deframe_of_step {rx : Option Byte} {d : Deframer} {out : Option Frame}
    {ds : List Diag} (h : s.deframer.step s.now rx = (d, out, ds)) :
    s.deframe rx = ({ s with deframer := d, diagLog := s.diagLog ++ ds }, out) := by
  simp [State.deframe, h]

theorem waitPass_emitted (l : Line) (a : Addr) (f : Frame) (s : State) :
    waitPass l a (some f) s = deliver l a f s := rfl

theorem waitPass_polled {f : Frame} (h : s.deframe none = (t, some f)) :
    waitPass l a none s = deliver l a f t := by
  simp [waitPass, h]

theorem waitPass_timedOut (h : s.deframe none = (t, none)) (hover : t.waitOver = true) :
    waitPass l a none s = .next (t.timedOut l a) := by
  simp [waitPass, h, hover]

theorem waitPass_waiting (h : s.deframe none = (t, none)) (hover : t.waitOver = false) :
    waitPass l a none s = .next t := by
  simp [waitPass, h, hover]

theorem State.waitOver_iff : s.waitOver = true ↔ s.waitTmo ≤ s.now - s.waitT0 :=
  decide_eq_true_iff

/-- Settles O23: the branches of `waitPass`, after the poll step of the deframer. -/
theorem exchangeFrameBeforeTimeout : Obligations.ExchangeFrameBeforeTimeout := by
  unfold Obligations.ExchangeFrameBeforeTimeout
  intro l a s
  refine ⟨fun f => waitPass_emitted l a f s, ?_, ?_⟩
  · intro f hstep
    simpa using waitPass_polled (l := l) (a := a) (State.deframe_of_step hstep)
  · intro d ds hstep
    have hpoll := State.deframe_of_step hstep
    constructor
    · intro hover
      exact waitPass_timedOut hpoll (State.waitOver_iff.mpr hover)
    · intro hlt
      refine waitPass_waiting hpoll (Bool.eq_false_iff.mpr fun hover => ?_)
      exact BitVec.not_le.mpr hlt (State.waitOver_iff.mp hover)

/-! ## A step runs the decoded instruction -/

theorem acceptStep_busy (h : s.busy = true) (cmd : Option Cmd) : acceptStep cmd s = .next s := by
  cases cmd with
  | none => rfl
  | some c => simp [acceptStep, h]

theorem acceptStep_decoded {c : Cmd} {i : Instr} (h : s.busy = false) (hd : decodeCmd c = .ok i) :
    acceptStep (some c) s = exec i s := by
  simp [acceptStep, h, hd]

/-- At the start of a transmit a frame instruction leaves BUSY as it is. -/
theorem exec_frame_start_busy {i : Instr} {k : MessageKind} (hk : i.kind = some k)
    (hq : s.seq = .line l a .transmitStart) : ∃ t, exec i s = .next t ∧ t.busy = s.busy := by
  obtain ⟨f, -, hexec⟩ := exec_frame hk s
  rw [hexec]
  cases i.wellFormed with
  | true => exact ⟨_, frameMeaning_start hq k f, rfl⟩
  | false => exact ⟨_, frameMeaning_refused hq k f, rfl⟩

theorem transmitPass_decoded {i : Instr} (h : decodeFrame s.txbuf = .ok i) :
    transmitPass l a s = exec i s := by
  simp [transmitPass, h]

theorem deliver_decoded {f : Frame} {i : Instr} (h : decodeFrame f = .ok i) :
    deliver l a f s = exec i s := by
  simp [deliver, h]

/-- Inside a wait a frame that decodes runs by `exec` and ends the exchange. -/
theorem deliver_runs {f : Frame} {i : Instr} (hd : decodeFrame f = .ok i)
    (hq : s.seq = .line l a .answer) : ∃ t, exec i s = .next t ∧ deliver l a f s = .next t := by
  obtain ⟨g, -, hexec⟩ := exec_frame (decodeFrame_kind hd) s
  rw [deliver_decoded hd, hexec, frameMeaning_answer hq]
  exact ⟨_, rfl, rfl⟩

/-- Settles O24: the scheduler's step at each of the four places, and command acceptance after it. -/
theorem stepRunsDecodedInstruction : Obligations.StepRunsDecodedInstruction := by
  unfold Obligations.StepRunsDecodedInstruction
  refine ⟨?_, fun t => ⟨rfl, fun c => ⟨fun hb => acceptStep_busy hb (some c),
    fun i hb hd => acceptStep_decoded hb hd⟩⟩⟩
  rintro s s1 s2 e i rfl hbyte hrst
  have hrx := hbyte.symm
  obtain ⟨hseq, hbusy⟩ :=
    receiveByte_seq_busy (s.sample s.nextClock.1 s.nextClock.2) s.nextClock.1.rx
  have htx := receiveByte_txbuf (s.sample s.nextClock.1 s.nextClock.2) s.nextClock.1.rx
  simp only [hrx, State.sample_seq, State.sample_busy, State.sample_txbuf] at hseq hbusy htx
  refine ⟨?command, ?request, ?emitted, ?polled⟩
  case command =>
    intro c hidle hfree hcmd hd
    have hidle2 := (s2.dropStale_seq e).trans (hseq.trans hidle)
    rw [step_elsewhere hrst (by simp [hidle]) hrx, hcmd, State.advance_idle hidle2]
    exact acceptStep_decoded (by rw [State.dropStale_busy, hbusy, hfree]) hd
  case request =>
    intro l a hq hb hd
    have hstart := (s2.dropStale_seq e).trans (hseq.trans hq)
    obtain ⟨t, ht, htb⟩ := exec_frame_start_busy (decodeFrame_kind hd) hstart
    have hpass : transmitPass l a (s2.dropStale e) = exec i (s2.dropStale e) :=
      transmitPass_decoded (by rw [State.dropStale_txbuf, htx, hd])
    have hsched := schedulerStep_start (hseq.trans hq) s.nextClock.1.txReady s.nextClock.1.txIdle e
    rw [ht, step, clock_events hrst hrx (hsched.trans (hpass.trans ht))]
    exact acceptStep_busy (by rw [htb, State.dropStale_busy, hbusy, hb]) _
  case emitted =>
    rintro l a f hq rfl hd
    obtain ⟨t, ht, hdel⟩ := deliver_runs hd (hseq.trans hq)
    exact ⟨t, ht, clock_events hrst hrx ((schedulerStep_answer (hseq.trans hq) _ _ _).trans hdel)⟩
  case polled =>
    rintro l a f d ds hq rfl hpoll hd
    obtain ⟨t, ht, hdel⟩ := deliver_runs hd
      (s := { s2 with deframer := d, diagLog := s2.diagLog ++ ds }) (hseq.trans hq)
    have hpass := waitPass_polled (l := l) (a := a) (State.deframe_of_step hpoll)
    exact ⟨t, ht, clock_events hrst hrx
      ((schedulerStep_answer (hseq.trans hq) _ _ _).trans (hpass.trans hdel))⟩

/-! ## Runs -/

/-- Some number of clocks takes `s` to `t`. -/
def Reaches (s t : State) : Prop := ∃ n : Nat, Host.Core.run Sys2Proof.core n s = .next t

theorem Reaches.refl (s : State) : Reaches s s := ⟨0, rfl⟩

theorem run_succ_of_step {M : Host.Core} {s t : M.State} (h : M.step s = .next t) (n : Nat) :
    M.run (n + 1) s = M.run n t := by
  rw [Host.Core.run, h]

theorem exists_step_of_run_succ {M : Host.Core} {s u : M.State} {n : Nat}
    (h : M.run (n + 1) s = .next u) : ∃ t, M.step s = .next t ∧ M.run n t = .next u := by
  rw [Host.Core.run] at h
  split at h
  · next t hstep => exact ⟨t, hstep, h⟩
  · cases h
  · cases h

theorem Reaches.head (h : step s = .next t) (htu : Reaches t u) : Reaches s u := by
  obtain ⟨n, hn⟩ := htu
  exact ⟨n + 1, (run_succ_of_step (M := Sys2Proof.core) h n).trans hn⟩

theorem Reaches.single (h : step s = .next t) : Reaches s t := .head h (.refl t)

theorem Reaches.trans (hst : Reaches s t) (htu : Reaches t u) : Reaches s u := by
  obtain ⟨n, hn⟩ := hst
  induction n generalizing s with
  | zero => cases hn; exact htu
  | succ n ih =>
    obtain ⟨s', hstep, hrest⟩ := exists_step_of_run_succ (M := Sys2Proof.core) hn
    exact .head hstep (ih hrest)

/-! ## Clocks with nothing on the ports (log 2) -/

/-- The same registers at another time. -/
def State.atTime (s : State) (now : Word32) : State := { s with now := now }

theorem State.nextClock_quiet (h : s.inputs = []) : s.nextClock = (s.quietClock, []) := by
  simp [State.nextClock, h]

theorem State.quietClock_now_of_ready (h : s.ready = true) : s.quietClock.now = s.now := by
  simp [State.quietClock, h]

theorem State.quietClock_now_of_waiting (h : s.ready = false) :
    s.quietClock.now = s.now + 1 := by
  simp [State.quietClock, h]

/-- A quiet clock moves no register but NOW and `res_valid`. -/
theorem State.sample_quiet (h : s.inputs = []) :
    s.sample s.quietClock [] = { s.atTime s.quietClock.now with resValid := false } := by
  rw [State.sample, ← h]
  rfl

/-- Inside `Transmit`, with nothing on the ports and no result left on them. -/
structure State.Sending (s : State) (l : Line) (a : Addr) (ph : Phase) : Prop where
  seq : s.seq = .line l a ph
  transmitting : ph.transmitting = true
  inputs : s.inputs = []
  resValid : s.resValid = false

/-- Inside `Transmit` a clock is NOW moved and the scheduler's own step. -/
theorem State.Sending.step_eq (h : s.Sending l a ph) :
    step s = .next ((s.atTime s.quietClock.now).advance true (s.lineIdle s.quietClock.now)) := by
  have hclock := State.nextClock_quiet h.inputs
  have hsample : s.sample s.nextClock.1 s.nextClock.2 = s.atTime s.quietClock.now := by
    rw [hclock, State.sample_quiet h.inputs, ← h.resValid]
    rfl
  have hq : ∀ l a, s.seq ≠ .line l a .transmitStart ∧ s.seq ≠ .line l a .answer := by
    intro l' a'
    rw [h.seq]
    constructor <;> rintro ⟨⟩ <;> cases h.transmitting
  have hstep := step_elsewhere (s := s) (t := s.atTime s.quietClock.now) (e := none)
    (by rw [hclock]; rfl) hq (by rw [hsample, hclock]; rfl)
  rw [hstep, hclock]
  rfl

theorem State.Sending.step_ready (h : s.Sending l a ph) (hr : s.ready = true) :
    step s = .next (s.advance true (s.lineIdle s.now)) := by
  rw [h.step_eq, State.quietClock_now_of_ready hr]
  rfl

theorem State.Sending.step_waiting (h : s.Sending l a ph) (hr : s.ready = false) :
    step s = .next ((s.atTime (s.now + 1)).advance true (s.lineIdle (s.now + 1))) := by
  rw [h.step_eq, State.quietClock_now_of_waiting hr]

/-! ## A wait of `n` milliseconds -/

/-- SEQ waits until NOW is `n` past the NOW of `s`, and then goes on with `cont`. -/
structure State.WaitsFor (s : State) (n : Word32) (cont : State → State) : Prop where
  ready : ∀ w : Word32, (s.atTime w).ready = decide (n ≤ w - s.now)
  advance : ∀ w : Word32, (s.atTime w).advance true (s.lineIdle w) =
    if n ≤ w - s.now then cont (s.atTime w) else s.atTime w

variable {n : Word32} {cont : State → State}

theorem State.Sending.atTime (h : s.Sending l a ph) (w : Word32) : (s.atTime w).Sending l a ph :=
  ⟨h.seq, h.transmitting, h.inputs, h.resValid⟩

/-- A clock of a wait that is not over. -/
theorem State.Sending.step_tick (h : s.Sending l a ph) {w : Word32}
    (hr : (s.atTime w).ready = false) :
    step (s.atTime w) = .next ((s.atTime (w + 1)).advance true (s.lineIdle (w + 1))) :=
  (h.atTime w).step_waiting hr

theorem State.WaitsFor.not_ready (hw : s.WaitsFor n cont) {j : Nat} (hj : j < n.toNat) :
    (s.atTime (s.now + BitVec.ofNat 32 j)).ready = false := by
  rw [hw.ready]
  exact decide_eq_false (by bv_omega)

/-- While the wait lasts, each clock moves NOW by one millisecond and nothing else. -/
theorem State.WaitsFor.reaches_during (hw : s.WaitsFor n cont) (h : s.Sending l a ph) {j : Nat}
    (hj : j < n.toNat) : Reaches s (s.atTime (s.now + BitVec.ofNat 32 j)) := by
  induction j with
  | zero =>
    have hsame : s.atTime (s.now + BitVec.ofNat 32 0) = s := by simp [State.atTime]
    rw [hsame]
    exact .refl s
  | succ j ih =>
    have hlt : j < n.toNat := by omega
    have hnow : s.now + BitVec.ofNat 32 j + 1 = s.now + BitVec.ofNat 32 (j + 1) := by bv_omega
    refine (ih hlt).trans (.single ?_)
    rw [h.step_tick (hw.not_ready hlt), hnow, hw.advance, if_neg (by bv_omega)]

/-- After `n` milliseconds the wait is left (R210). -/
theorem State.WaitsFor.reaches_cont (hw : s.WaitsFor n cont) (h : s.Sending l a ph) :
    Reaches s (cont (s.atTime (s.now + n))) := by
  have hend := hw.advance (s.now + n)
  rw [if_pos (by bv_omega)] at hend
  cases hn : n.toNat with
  | zero =>
    have hnow : s.now + n = s.now := by bv_omega
    have hr : s.ready = true := by
      have := hw.ready s.now
      simpa [State.atTime] using this.trans (decide_eq_true (by bv_omega))
    rw [hnow] at hend ⊢
    exact .single ((h.step_ready hr).trans (congrArg _ hend))
  | succ j =>
    have hnow : s.now + BitVec.ofNat 32 j + 1 = s.now + n := by bv_omega
    have hlt : j < n.toNat := by omega
    refine (hw.reaches_during h hlt).trans (.single ?_)
    rw [h.step_tick (hw.not_ready hlt), hnow, hend]

/-! ## `Transmit` line by line, in quiet clocks (R201, R202) -/

/-- A wait that begins at NOW is over once WAIT_TMO has passed. -/
theorem State.waitOver_atTime (ht : s.waitT0 = s.now) (w : Word32) :
    (s.atTime w).waitOver = decide (s.waitTmo ≤ w - s.now) := by
  rw [← ht]
  rfl

/-- The line of a frame whose first byte is written at NOW is idle after T_FRAME_MS. -/
theorem State.lineIdle_of_firstWrite (hf : s.firstWrite = s.now) (w : Word32) :
    s.lineIdle w = decide (s.params.frame ≤ w - s.now) := by
  rw [← hf]
  rfl

theorem State.Sending.reaches_writing (h : s.Sending l a .setup) (ht : s.waitT0 = s.now) :
    Reaches s { s with now := s.now + s.waitTmo, seq := .line l a (.writing 0) } := by
  refine State.WaitsFor.reaches_cont (n := s.waitTmo)
    (cont := fun s => { s with seq := .line l a (.writing 0) }) ⟨fun w => ?_, fun w => ?_⟩ h
  · rw [← State.waitOver_atTime ht]
    simp only [State.ready, (h.atTime w).seq]
  · rw [State.advance_setup (h.atTime w).seq, State.waitOver_atTime ht]
    simp only [decide_eq_true_eq]

theorem State.Sending.reaches_hold (h : s.Sending l a .flush) (hf : s.firstWrite = s.now) :
    Reaches s
      { s with
        now := s.now + s.params.frame
        waitT0 := s.now + s.params.frame
        waitTmo := s.params.dirHold
        seq := .line l a .hold } := by
  refine State.WaitsFor.reaches_cont (n := s.params.frame)
    (cont := fun s => { s.startWait s.params.dirHold with seq := .line l a .hold })
    ⟨fun w => ?_, fun w => ?_⟩ h
  · rw [← State.lineIdle_of_firstWrite hf]
    simp only [State.ready, (h.atTime w).seq]
    rfl
  · rw [State.advance_flush (h.atTime w).seq, State.lineIdle_of_firstWrite hf]
    simp only [decide_eq_true_eq]

theorem State.Sending.reaches_end (h : s.Sending l a .hold) (ht : s.waitT0 = s.now) :
    Reaches s
      { s with
        dir := false
        now := s.now + s.waitTmo
        waitT0 := s.now + s.waitTmo
        waitTmo := l.window.getD s.params.txGap
        seq := .line l a (if l.window.isSome then .answer else .pause) } := by
  have hend := State.WaitsFor.reaches_cont (s := s) (n := s.waitTmo)
    (cont := fun s => s.endTransmit l a) ⟨fun w => ?_, fun w => ?_⟩ h
  · rwa [State.endTransmit_eq] at hend
  · rw [← State.waitOver_atTime ht]
    simp only [State.ready, (h.atTime w).seq]
  · rw [State.advance_hold (h.atTime w).seq, State.waitOver_atTime ht]
    simp only [decide_eq_true_eq]

/-- The transmitter of the default clock is always ready, so each byte takes one clock (R202). -/
theorem State.Sending.step_writing {i : Fin 11} (h : s.Sending l a (.writing i)) :
    step s = .next (s.writeByte l a i true) := by
  rw [h.step_ready (by simp only [State.ready, h.seq]), State.advance_writing h.seq]

theorem State.Sending.reaches_flush_of_later {i : Fin 11} (h : s.Sending l a (.writing i))
    (h0 : i ≠ 0) : Reaches s { s with seq := .line l a .flush } := by
  induction i using Fin.reverseInduction generalizing s with
  | last => exact .single (h.step_writing.trans (congrArg _ (s.writeByte_last l a)))
  | cast j ih =>
    have hstep := h.step_writing.trans
      (congrArg _ (State.writeByte_later (j := j.succ) h0 rfl))
    exact .head hstep (ih ⟨rfl, rfl, h.inputs, h.resValid⟩ (Fin.succ_ne_zero j))

/-- The eleven bytes go out with no time passing; the transmitter notes the first (log 9). -/
theorem State.Sending.reaches_flush (h : s.Sending l a (.writing 0)) :
    Reaches s { s with firstWrite := s.now, seq := .line l a .flush } := by
  have hlater : State.Sending { s with firstWrite := s.now, seq := .line l a (.writing 1) } l a
      (.writing 1) := ⟨rfl, rfl, h.inputs, h.resValid⟩
  exact .head h.step_writing (hlater.reaches_flush_of_later (by decide))

/-- The first clock of a `Transmit` takes no time, and the request goes out as it stands in TXBUF. -/
theorem State.AtLine.step_transmitStart (h : s.AtLine l a .transmitStart)
    (hq : s.seq = .line l a .transmitStart) (hin : s.inputs = []) :
    step s = .next { s.beginTransmit l a s.txbuf with resValid := false } := by
  have hclock := State.nextClock_quiet hin
  have hnow := State.quietClock_now_of_ready (s := s) (by simp only [State.ready, hq])
  have hsample : s.sample s.nextClock.1 s.nextClock.2 = { s with resValid := false } := by
    rw [hclock, State.sample_quiet hin, hnow]
    rfl
  have hline : State.AtLine { s with resValid := false } l a .transmitStart :=
    h.congr h.stored.congr h.dir h.allowed
  have hstart := schedulerStep_start (s := { s with resValid := false }) hq
    s.nextClock.1.txReady s.nextClock.1.txIdle none
  have hsched := hstart.trans (hline.transmitPass_eq hq)
  rw [step, hsample, clock_events (by rw [hclock]; rfl) (by rw [hclock]; rfl) hsched, hclock]
  rfl

/-- Settles O22: the first clock, the setup delay, the eleven bytes, the flush and the hold delay, one
after the other; DIR is 0 before the transmit as after it. -/
theorem transmitTakesItsTime : Obligations.TransmitTakesItsTime := by
  unfold Obligations.TransmitTakesItsTime
  intro s l a hinv hin hq
  have hline := (State.inv_line_iff hq).mp hinv
  have hdir : s.dir = false := hline.dir
  rw [hdir]
  refine Reaches.trans (.single (hline.step_transmitStart hq hin)) ?_
  refine Reaches.trans (State.Sending.reaches_writing ⟨rfl, rfl, hin, rfl⟩ rfl) ?_
  refine Reaches.trans (State.Sending.reaches_flush ⟨rfl, rfl, hin, rfl⟩) ?_
  refine Reaches.trans (State.Sending.reaches_hold ⟨rfl, rfl, hin, rfl⟩ rfl) ?_
  exact State.Sending.reaches_end ⟨rfl, rfl, hin, rfl⟩ rfl

end Sys2Proof.Machine

/-! SUPPORT. Proofs of the statement about commands that are none (R234): how a code decodes, said once by
the argument bytes R111 gives it, and which bytes it reads. -/

namespace Sys2Proof.Machine

-- As in the proofs of the state's statements: no elaborating threads beside those still running.
set_option Elab.async false

variable {s : State} {i : Instr} {c c' : Cmd}

/-- A code of R111 decodes to an instruction of that code when the argument bytes it needs are there; any
other code decodes to none (R234). -/
theorem decodeCmd_cases (c : Cmd) :
    (argsNeeded c.op = none ∧ decodeCmd c = .error (.badCommand c.op)) ∨
    ∃ k i, argsNeeded c.op = some k ∧ i.code = some c.op ∧
      decodeCmd c = if c.len < k then .error (.badCommand c.op) else .ok i := by
  have hcode {i : Instr} {n : Nat} (hop : c.op.toNat = n) (hi : i.code = some (.ofNat 8 n)) :
      i.code = some c.op := by rw [hi, ← hop, BitVec.ofNat_toNat, BitVec.setWidth_eq]
  unfold decodeCmd
  dsimp only
  split
  case h_16 => exact .inl ⟨by unfold argsNeeded; split <;> simp_all, rfl⟩
  case h_5 | h_6 | h_7 | h_8 | h_11 =>
    next hop => exact .inr ⟨_, _, by simp [argsNeeded, hop], hcode hop rfl, rfl⟩
  all_goals
    next hop =>
      exact .inr ⟨0, _, by simp [argsNeeded, hop], hcode hop rfl, (if_neg BitVec.not_lt_zero).symm⟩

/-- A command other than LoadSettings reads the argument bytes it needs and no others. -/
theorem decodeCmd_congr {k : BitVec 4} (hop : c.op = c'.op) (hload : c.op ≠ 0x14)
    (h : argsNeeded c.op = some k) (hlen : k ≤ c.len) (hlen' : k ≤ c'.len)
    (harg : ∀ (j : Nat) (hj : j < 14), j < k.toNat → c.arg[j] = c'.arg[j]) :
    decodeCmd c = decodeCmd c' := by
  have hnot : ¬ c.len < k := BitVec.not_lt.mpr hlen
  have hnot' : ¬ c'.len < k := BitVec.not_lt.mpr hlen'
  have hnat : c.op.toNat ≠ 0x14 := fun hn => hload (BitVec.eq_of_toNat_eq hn)
  unfold argsNeeded at h
  split at h <;> cases h
  case h_10 hn => exact absurd hn hnat
  all_goals
    next hn =>
      have hn' := hop ▸ hn
      simp only [decodeCmd, hn, hn', hnot, hnot', if_false] <;> simp [harg]

/-- A command that is none is answered BadCommand (R234). -/
theorem acceptStep_bad {r : Reject} (h : s.busy = false) (hd : decodeCmd c = .error r) :
    acceptStep (some c) s = .next (s.badCommand c.op) := by
  simp [acceptStep, h, hd]

/-- Settles O10: by the two ways a code decodes, and by the argument bytes each code reads. -/
theorem badCommandExactly : Obligations.BadCommandExactly := by
  unfold Obligations.BadCommandExactly
  refine ⟨?bad, ?listed, fun c c' k => decodeCmd_congr⟩
  case bad =>
    intro c s hfree hbad
    have hd : decodeCmd c = .error (.badCommand c.op) := by
      rcases decodeCmd_cases c with ⟨-, hd⟩ | ⟨k, i, hk, -, hd⟩
      · exact hd
      · obtain ⟨k', hk', hlt⟩ := hbad.resolve_left (by simp [hk])
        obtain rfl : k = k' := Option.some.inj (hk.symm.trans hk')
        rw [hd, if_pos hlt]
    exact acceptStep_bad hfree hd
  case listed =>
    intro c k hk hle
    rcases decodeCmd_cases c with ⟨hnone, -⟩ | ⟨k', i, hk', hcode, hd⟩
    · simp [hnone] at hk
    · obtain rfl : k = k' := Option.some.inj (hk.symm.trans hk')
      exact ⟨i, hd.trans (if_neg (BitVec.not_lt.mpr hle)), hcode⟩

end Sys2Proof.Machine

/-! SUPPORT. Proofs of the procedures' statements (`44_procedures.md`). First what they share: the end of a
stretch of code in the terms of the statements, an answer as an instruction, the registry after one
write. Then the procedures one after another: each loop of R194 by its next slot or its end, each answer
by what it writes. Then the commands by the bus state they find, and the queries. -/

namespace Sys2Proof.Machine

-- As in the proofs of the state's statements: no elaborating threads beside those still running.
set_option Elab.async false

variable {s : State} {l : Line} {a b n : Addr} {i : Instr}

/-! ## What the procedures share -/

/-- The scheduler reaches a line: its request is in TXBUF, and nothing else differs. -/
theorem State.enter_eq_requesting (s : State) (l : Line) (a : Addr) :
    s.enter l a = s.requesting l a (l.request a s.settings) := rfl

/-- A command ends as `ended` says. -/
theorem State.finish_eq_ended (s : State) (r : Result) : s.finish r = s.ended r := rfl

/-- Inside a wait a frame instruction is the answer to the exchange (R203). -/
theorem exec_answer {k : MessageKind} {f : Frame} (hk : i.kind = some k) (hf : encode i = .frame f)
    (hq : s.seq = .line l a .answer) : exec i s = .next (s.returned l a (some (k, f))) := by
  obtain ⟨g, hg, hexec⟩ := exec_frame hk s
  obtain rfl : g = f := Packet.frame.inj (hg.symm.trans hf)
  rw [hexec, frameMeaning_answer hq]

/-- A write to one slot leaves the others as they are. -/
theorem sameElsewhere_write (reg : Registry) (a : Addr) (f : Slot → Slot) :
    sameElsewhere reg (reg.write a f) a := fun _ hb => Registry.slot_write_ne reg hb f

/-- So does the registration of a device (R221). -/
theorem sameElsewhere_register (s : State) (a : Addr) :
    sameElsewhere s.reg (s.register a).reg a := fun b hb => by simp [hb]

/-- A registered device is Inactive, with a fresh record if it had none (R192, R221). -/
theorem State.register_slot_self (s : State) (a : Addr) :
    (s.register a).reg.slot a =
      if (s.reg.slot a).present then { s.reg.slot a with state := .inactive }
      else { s.reg.slot a with
             present := true, state := .inactive, ser1V := false, ser2V := false
             warmT0V := false } := by
  rw [State.register_slot, if_pos rfl]
  split <;> rfl

/-- A write that keeps PRESENT leaves the next slot of a loop where it is. -/
theorem isNext_write {f : Slot → Slot} (hf : (f (s.reg.slot a)).present = (s.reg.slot a).present)
    (i : Nat) (n : Addr) : (s.memWrite a f).IsNext i n ↔ s.IsNext i n :=
  isNext_congr (Registry.present_write hf) i n

theorem noneFrom_write {f : Slot → Slot} (hf : (f (s.reg.slot a)).present = (s.reg.slot a).present)
    (i : Nat) : (s.memWrite a f).NoneFrom i ↔ s.NoneFrom i :=
  noneFrom_congr (Registry.present_write hf) i

/-! ## Discovery (R221, R222) -/

theorem State.discoveryLoop_of_lt (h : s.noresp < norespLimit) :
    s.discoveryLoop = s.requesting .discover 0 (frameSYS .discover) := if_pos h

theorem State.discoveryLoop_of_limit (h : s.noresp = norespLimit) :
    s.discoveryLoop = s.retrieveFrom 0 := if_neg (by simp [h])

/-- A productive round starts the streak again. -/
theorem State.productive_eq (s : State) :
    s.productive = State.requesting { s with noresp := 0 } .discover 0 (frameSYS .discover) :=
  State.discoveryLoop_of_lt (s := { s with noresp := 0 }) (show 0#2 < norespLimit by decide)

/-- A first or second round in a row without a response: another round. -/
theorem State.unproductive_of_lt (h : s.noresp < 2) :
    s.unproductive =
      State.requesting { s with noresp := s.noresp + 1 } .discover 0 (frameSYS .discover) :=
  State.discoveryLoop_of_lt (s := { s with noresp := s.noresp + 1 })
    (by simp only [norespLimit]; bv_omega)

/-- The third ends Discovery. -/
theorem State.unproductive_of_two (h : s.noresp = 2) :
    s.unproductive = State.retrieveFrom { s with noresp := 3 } 0 := by
  have hstreak : s.noresp + 1 = 3 := by rw [h]; rfl
  rw [State.unproductive, hstreak]
  exact State.discoveryLoop_of_limit (s := { s with noresp := 3 }) rfl

/-- Settles O28: the rounds of the streak. -/
theorem discoveryEndsAfterThree : Obligations.DiscoveryEndsAfterThree := by
  unfold Obligations.DiscoveryEndsAfterThree
  intro a s
  refine ⟨s.productive_eq, fun hlt => ?_, fun htwo => ?_⟩
  · exact State.unproductive_of_lt (s := s.raise .timeout 0x82) hlt
  · exact State.unproductive_of_two (s := s.raise .timeout 0x82) htwo

/-- Settles O25: the registration, then a productive round. -/
theorem startupAckRegistersDevice : Obligations.StartupAckRegistersDevice := by
  unfold Obligations.StartupAckRegistersDevice
  intro a b x s _ hq
  have haddr : addrOfByte (byteOfAddr b) = b := addrOfByte_byteOfAddr b
  refine ⟨(s.register b).productive, ?_, ?_, ?_, ?_⟩
  · rw [exec_answer (i := .startupAck b x) rfl rfl hq]
    exact congrArg (fun c => Host.Outcome.next (s.register c).productive) haddr
  · rw [State.productive_eq]; rfl
  · rw [State.productive_reg]; exact s.register_slot_self b
  · rw [State.productive_reg]; exact sameElsewhere_register s b

/-- Settles O27: the continuation of SetAddress does not look at what the exchange returned. -/
theorem setAddressDrainIgnored : Obligations.SetAddressDrainIgnored := by
  unfold Obligations.SetAddressDrainIgnored
  intro a s hq
  refine ⟨(s.register a).productive, ?_, ?_, ?_, ?_, ?_, ?_⟩
  · rw [State.productive_eq]; rfl
  · rw [State.productive_reg]; exact s.register_slot_self a
  · rw [State.productive_reg]; exact sameElsewhere_register s a
  · intro i k hk
    obtain ⟨f, hf, -⟩ := exec_frame hk s
    exact exec_answer hk hf hq
  · intro f hf
    simp [deliver, decodeFrame, hf, State.returned]
  · simp only [State.productive_eq]
    rfl

/-- What `first_free` answers: the lowest absent slot of 0x01..0x1F, or the sentinel (R193). -/
theorem Registry.firstFree_cases (reg : Registry) :
    (∃ b : Addr, reg.firstFree = byteOfAddr b ∧ b ≠ 0 ∧ (reg.slot b).present = false ∧
      ∀ c : Addr, c ≠ 0 → c < b → (reg.slot c).present = true) ∨
    (reg.firstFree = addrNone ∧ ∀ c : Addr, c ≠ 0 → (reg.slot c).present = true) := by
  have hpos : ∀ c : Addr, c ≠ 0 → 1 ≤ c.toNat := fun c hc => by bv_omega
  unfold Registry.firstFree
  split
  · next j hj =>
    obtain ⟨hone, hlt, hfree, hbelow⟩ := firstIndex_some hj
    have hto : (BitVec.ofNat 5 j).toNat = j := by simp; omega
    refine .inl ⟨BitVec.ofNat 5 j, ?_, ?_, ?_, fun c hc hcj => ?_⟩
    · exact BitVec.eq_of_toNat_eq (by simp [byteOfAddr]; omega)
    · bv_omega
    · simpa [hto, ← Registry.present_toNat] using hfree
    · simpa using hbelow c.toNat (hpos c hc) (by rw [BitVec.lt_def, hto] at hcj; exact hcj)
  · next hj =>
    refine .inr ⟨rfl, fun c hc => ?_⟩
    simpa using firstIndex_none hj c.toNat (hpos c hc) (by omega)

theorem Registry.firstFree_eq_of_lowest {reg : Registry} (hb : b ≠ 0)
    (hfree : (reg.slot b).present = false)
    (hbelow : ∀ c : Addr, c ≠ 0 → c < b → (reg.slot c).present = true) :
    reg.firstFree = byteOfAddr b := by
  rcases reg.firstFree_cases with ⟨c, heq, hc, hcfree, hcbelow⟩ | ⟨-, hall⟩
  · rcases Nat.lt_trichotomy b.toNat c.toNat with hlt | hbc | hlt
    · simp [hcbelow b hb hlt] at hfree
    · rw [BitVec.eq_of_toNat_eq hbc]; exact heq
    · simp [hbelow c hc hlt] at hcfree
  · simp [hall b hb] at hfree

theorem Registry.firstFree_eq_none {reg : Registry}
    (hall : ∀ c : Addr, c ≠ 0 → (reg.slot c).present = true) : reg.firstFree = addrNone := by
  rcases reg.firstFree_cases with ⟨c, -, hc, hfree, -⟩ | ⟨heq, -⟩
  · simp [hall c hc] at hfree
  · exact heq

/-- The sentinel is no address (R71). -/
theorem byteOfAddr_ne_addrNone (a : Addr) : byteOfAddr a ≠ addrNone := by
  revert a; decide

theorem State.discovered_unaddressed_of_free (h : s.reg.firstFree = byteOfAddr b) (f : Frame) :
    s.discovered (some (.startupAckUnaddressed, f)) =
      s.requesting .setAddress b (frameBCA .setAddress b) := by
  simp [State.discovered, h, byteOfAddr_ne_addrNone, State.enter_eq_requesting, Line.request]

theorem State.discovered_unaddressed_of_full (h : s.reg.firstFree = addrNone) (f : Frame) :
    s.discovered (some (.startupAckUnaddressed, f)) =
      (s.raise .exhausted addrNone).unproductive := by
  simp [State.discovered, h]

/-- Settles O26: by what `first_free` answers in the two cases. -/
theorem unaddressedGetsLowestFree : Obligations.UnaddressedGetsLowestFree := by
  unfold Obligations.UnaddressedGetsLowestFree
  intro a x s hq
  rw [exec_answer (i := .startupAckUnaddressed x) rfl rfl hq, State.returned]
  constructor
  · intro b hb hfree hbelow
    rw [State.discovered_unaddressed_of_free (Registry.firstFree_eq_of_lowest hb hfree hbelow)]
  · intro hall
    rw [State.discovered_unaddressed_of_full (Registry.firstFree_eq_none hall)]
    constructor
    · intro hlt
      rw [State.unproductive_of_lt (s := s.raise .exhausted addrNone) hlt]
      rfl
    · intro htwo
      rw [State.unproductive_of_two (s := s.raise .exhausted addrNone) htwo]
      rfl

/-! ## RetrieveSerials (R223) -/

/-- The lowest slot from `i` that is present and satisfies `p` is the one `next` answers. -/
theorem Registry.next_eq_some {reg : Registry} {p : Slot → Bool} {i : Nat} (hi : i ≤ n.toNat)
    (hn : ((reg.slot n).present && p (reg.slot n)) = true)
    (hbelow : ∀ b : Addr, i ≤ b.toNat → b.toNat < n.toNat →
      ((reg.slot b).present && p (reg.slot b)) = false) : reg.next p i = some n := by
  cases hnext : reg.next p i with
  | none => simp [Registry.next_none hnext n hi] at hn
  | some b =>
    obtain ⟨hib, hpresent, hpb, hbelowb⟩ := Registry.next_some hnext
    have hb : ((reg.slot b).present && p (reg.slot b)) = true := by simp [hpresent, hpb]
    rcases Nat.lt_trichotomy b.toNat n.toNat with hlt | heq | hlt
    · simp [hbelow b hib hlt] at hb
    · rw [BitVec.eq_of_toNat_eq heq]
    · simp [hbelowb n hi hlt] at hn

theorem Registry.next_eq_none {reg : Registry} {p : Slot → Bool} {i : Nat}
    (hall : ∀ b : Addr, i ≤ b.toNat → ((reg.slot b).present && p (reg.slot b)) = false) :
    reg.next p i = none := by
  cases hnext : reg.next p i with
  | none => rfl
  | some b =>
    obtain ⟨hib, hpresent, hpb, -⟩ := Registry.next_some hnext
    simpa [hpresent, hpb] using hall b hib

/-- RetrieveSerials at a slot with a fragment missing asks for the first missing one. -/
theorem State.retrieveFrom_of_next {i : Nat} (hi : i ≤ n.toNat)
    (hn : (s.reg.slot n).lacksSerial = true)
    (hbelow : ∀ b : Addr, i ≤ b.toNat → b.toNat < n.toNat →
      (s.reg.slot b).lacksSerial = false) :
    s.retrieveFrom i =
      if (s.reg.slot n).ser1V then s.requesting .serial2 n (frameREQ .serialRequest2 n)
      else s.requesting .serial1 n (frameREQ .serialRequest1 n) := by
  have hnext : s.reg.next (fun r => !r.ser1V || !r.ser2V) i = some n :=
    Registry.next_eq_some hi hn hbelow
  rw [State.retrieveFrom, hnext]
  rfl

theorem State.retrieveFrom_of_none {i : Nat}
    (hall : ∀ b : Addr, i ≤ b.toNat → (s.reg.slot b).lacksSerial = false) :
    s.retrieveFrom i = s.enterWarmUp := by
  have hnext : s.reg.next (fun r => !r.ser1V || !r.ser2V) i = none := Registry.next_eq_none hall
  rw [State.retrieveFrom, hnext]

/-- A save that finds no active time only moves the save point (R250). -/
theorem State.saveRuntime_of_same (h : s.accrued = s.settings.activeS) :
    s.saveRuntime = { s with saveT := s.now } := by
  rw [State.saveRuntime, if_pos h, h]

/-- A save that finds active time counts it and emits the record. -/
theorem State.saveRuntime_of_grown (h : s.accrued ≠ s.settings.activeS) :
    s.saveRuntime =
      State.persist
        { s with settings := { s.settings with activeS := s.accrued }, saveT := s.now } :=
  if_neg h

/-- With the bus not On there is no active time. -/
theorem State.saveRuntime_of_off (h : s.on = false) : s.saveRuntime = { s with saveT := s.now } :=
  State.saveRuntime_of_same (by simp [State.accrued, h])

theorem State.pass1From_of_next {i : Nat} (h : s.IsNext i n) :
    s.pass1From i = s.requesting .warmup n (frameREQ .warmup n) := loopFrom_next h _ _

theorem State.pass1From_of_none {i : Nat} (h : s.NoneFrom i) :
    s.pass1From i =
      { s with waitT0 := s.now, waitTmo := 4000, seq := .delaying .warmupSettle } :=
  loopFrom_none h _ _

/-- From Powered, PowerOn goes on to pass 1 with a new save point (R228). -/
theorem State.enterWarmUp_of_powered (h : s.busState = .powered) :
    s.enterWarmUp = State.pass1From { s with saveT := s.now, busState := .warmingUp } 0 := by
  rw [State.enterWarmUp, State.saveRuntime_of_off (by simp [State.on, h])]

/-- Settles O30: by the slot the walk finds, and what follows it in Powered. -/
theorem retrieveSerialsWalk : Obligations.RetrieveSerialsWalk := by
  unfold Obligations.RetrieveSerialsWalk
  intro s i
  constructor
  · intro n hi hn hbelow
    rw [State.retrieveFrom_of_next hi hn hbelow]
    exact ⟨fun h => by rw [h]; rfl, fun h => by rw [h]; rfl⟩
  · intro hall hbus
    rw [State.retrieveFrom_of_none hall, State.enterWarmUp_of_powered hbus]
    exact ⟨fun n hn => State.pass1From_of_next hn, fun h => State.pass1From_of_none h⟩

/-- The fragment of a SerialReply, filtered (R125, R145, R146). -/
theorem serialFragment_frameRSPS (k : MessageKind) (v : Fragment) :
    serialFragment (frameRSPS k v) = v.map printable := by
  apply Vector.ext
  intro i hi
  rw [serialFragment_getElem, Vector.getElem_map]
  match i, hi with
  | 0, _ | 1, _ | 2, _ | 3, _ | 4, _ | 5, _ | 6, _ | 7, _ => rfl

/-- The first fragment is stored, and the second asked for (R223). -/
theorem State.gotSerial1_reply_of_missing (v : Fragment) (h : (s.reg.slot a).ser2V = false) :
    s.gotSerial1 a (some (.serialReply1, frameRSPS .serialReply1 v)) =
      (s.memWrite a fun r => { r with ser1 := v.map printable, ser1V := true }).enter .serial2 a := by
  simp [State.gotSerial1, expect_ok, serialFragment_frameRSPS, h]

/-- The first fragment is stored, and the walk goes on where the second is there already. -/
theorem State.gotSerial1_reply_of_held (v : Fragment) (h : (s.reg.slot a).ser2V = true) :
    s.gotSerial1 a (some (.serialReply1, frameRSPS .serialReply1 v)) =
      State.retrieveFrom (s.memWrite a fun r => { r with ser1 := v.map printable, ser1V := true })
        (a.toNat + 1) := by
  simp [State.gotSerial1, expect_ok, serialFragment_frameRSPS, h]

theorem State.gotSerial2_reply (s : State) (a : Addr) (v : Fragment) :
    s.gotSerial2 a (some (.serialReply2, frameRSPS .serialReply2 v)) =
      State.retrieveFrom
        (s.memWrite a fun r => { r with ser2 := v.map printable, ser2V := true })
        (a.toNat + 1) := by
  simp [State.gotSerial2, expect_ok, serialFragment_frameRSPS]

/-- Settles O29: the write of the fragment, and the walk that goes on after it. -/
theorem serialRepliesStored : Obligations.SerialRepliesStored := by
  unfold Obligations.SerialRepliesStored
  intro a v s
  constructor
  · intro hq
    have hexec := exec_answer (i := .serialReply1 v) rfl rfl hq
    rcases Bool.eq_false_or_eq_true (s.reg.slot a).ser2V with hheld | hmissing
    · rw [State.returned, State.gotSerial1_reply_of_held v hheld] at hexec
      refine ⟨_, hexec, ?_, ?_, fun h => absurd (hheld.symm.trans h) nofun, fun _ => ?_⟩
      all_goals rw [State.retrieveFrom_reg]
      · exact Registry.slot_write_self _ _ _
      · exact sameElsewhere_write _ _ _
      · rfl
    · rw [State.returned, State.gotSerial1_reply_of_missing v hmissing] at hexec
      exact ⟨_, hexec, Registry.slot_write_self _ _ _, sameElsewhere_write _ _ _, fun _ => rfl,
        fun h => absurd (hmissing.symm.trans h) nofun⟩
  · intro hq
    have hexec := exec_answer (i := .serialReply2 v) rfl rfl hq
    rw [State.returned, State.gotSerial2_reply] at hexec
    exact ⟨_, _, hexec, Registry.slot_write_self _ _ _, sameElsewhere_write _ _ _, rfl⟩

/-! ## WarmUpAll (R224) -/

/-- A WarmupAck marks the slot that was polled, and pass 1 goes on. -/
theorem State.gotWarmup_ack (s : State) (a : Addr) (f : Frame) :
    s.gotWarmup a (some (.warmupAck, f)) =
      State.pass1From
        (s.memWrite a fun r => { r with state := .warmingUp, warmT0 := s.now, warmT0V := true })
        (a.toNat + 1) := by
  rw [State.gotWarmup, expect_ok]

/-- Settles O31: the write to the polled slot moves no PRESENT, so pass 1 goes on where it would. -/
theorem warmupAckMarksPolledDevice : Obligations.WarmupAckMarksPolledDevice := by
  unfold Obligations.WarmupAckMarksPolledDevice
  intro a b s hq
  have hexec := exec_answer (i := .warmupAck b) rfl rfl hq
  rw [State.returned, State.gotWarmup_ack] at hexec
  refine ⟨_, hexec, ?_, ?_, fun n hn => ?_, fun hnone => ?_⟩
  all_goals rw [State.pass1From_reg]
  · exact Registry.slot_write_self _ _ _
  · exact sameElsewhere_write _ _ _
  · exact State.pass1From_of_next ((isNext_write rfl _ n).mpr hn)
  · exact State.pass1From_of_none ((noneFrom_write rfl _).mpr hnone)

theorem State.pass2From_of_next {i : Nat} (h : s.IsNext i n) :
    s.pass2From i = s.requesting .colorStartup n
      (frameREQC .colorStartup n s.settings.red s.settings.green s.settings.blue) :=
  loopFrom_next h _ _

/-- PowerOn ends after the last device of pass 2 (R228). -/
theorem State.pass2From_of_none {i : Nat} (h : s.NoneFrom i) :
    s.pass2From i = State.ended { s with hbLast := s.now } .ok := loopFrom_none h _ _

/-- Settles O32: each acknowledgement is the expected one and writes nothing. -/
theorem passTwoExchanges : Obligations.PassTwoExchanges := by
  unfold Obligations.PassTwoExchanges
  intro a b s
  refine ⟨fun n => State.pass2From_of_next, State.pass2From_of_none, fun hq => ?_, fun hq => ?_,
    fun hq => ?_⟩
  · rw [exec_answer (i := .colorStartupAck b) rfl rfl hq, State.returned, expect_ok]
    rfl
  · rw [exec_answer (i := .ledBrightnessAckStartup b) rfl rfl hq, State.returned, expect_ok]
    rfl
  · rw [exec_answer (i := .startupCompleteAck b) rfl rfl hq, State.returned, expect_ok]
    exact ⟨fun n hn => by rw [State.pass2From_of_next hn],
      fun hnone => by rw [State.pass2From_of_none hnone]⟩

/-! ## HeartbeatPoll and EndWarmUpAll (R225, R226) -/

theorem State.heartbeatFrom_of_next {i : Nat} (h : s.IsNext i n) :
    s.heartbeatFrom i = s.requesting .heartbeat n (frameREQ .heartbeat n) := loopFrom_next h _ _

theorem State.heartbeatFrom_of_none {i : Nat} (h : s.NoneFrom i) :
    s.heartbeatFrom i = s.aggregate := loopFrom_none h _ _

/-- The state each answer to Heartbeat names (R226). -/
def heartbeatAnswers : List (MessageKind × DevState) :=
  [(.warmupAck, .warmingUp), (.warmupCompleteAck, .warmedUp), (.heartbeatRunning, .active)]

theorem State.gotHeartbeat_answer {k : MessageKind} {v : DevState} (h : (k, v) ∈ heartbeatAnswers)
    (s : State) (a : Addr) (f : Frame) :
    s.gotHeartbeat a (some (k, f)) = (s.setDevState a v).heartbeatFrom (a.toNat + 1) := by
  simp only [heartbeatAnswers, List.mem_cons, Prod.mk.injEq, List.not_mem_nil, or_false] at h
  rcases h with ⟨rfl, rfl⟩ | ⟨rfl, rfl⟩ | ⟨rfl, rfl⟩ <;> rfl

/-- After an answer to Heartbeat: one write to the polled slot, and the sweep goes on from it. -/
theorem exec_heartbeat_answer {k : MessageKind} {v : DevState} {f : Frame}
    (hv : (k, v) ∈ heartbeatAnswers) (hk : i.kind = some k) (hf : encode i = .frame f)
    (hq : s.seq = .line .heartbeat a .answer) :
    ∃ t reg', exec i s = .next t ∧
      reg'.slot a = { s.reg.slot a with state := v } ∧ sameElsewhere s.reg reg' a ∧
      (∀ n : Addr, s.IsNext (a.toNat + 1) n →
        t = State.requesting { s with reg := reg' } .heartbeat n (frameREQ .heartbeat n)) ∧
      (s.NoneFrom (a.toNat + 1) → t = State.aggregate { s with reg := reg' }) := by
  have hexec := exec_answer hk hf hq
  rw [State.returned, State.gotHeartbeat_answer hv] at hexec
  exact ⟨_, s.reg.write a fun r => { r with state := v }, hexec, Registry.slot_write_self _ _ _,
    sameElsewhere_write _ _ _,
    fun n hn => State.heartbeatFrom_of_next ((isNext_write rfl _ n).mpr hn),
    fun hnone => State.heartbeatFrom_of_none ((noneFrom_write rfl _).mpr hnone)⟩

/-- Settles O33: the three answers by the one lemma about them. -/
theorem heartbeatAnswersSetState : Obligations.HeartbeatAnswersSetState := by
  unfold Obligations.HeartbeatAnswersSetState
  intro a b s hq p hp
  simp only [List.mem_cons, List.not_mem_nil, or_false] at hp
  rcases hp with rfl | rfl | rfl
  · exact exec_heartbeat_answer (k := .warmupAck) (v := .warmingUp) (by decide) rfl rfl hq
  · exact exec_heartbeat_answer (k := .warmupCompleteAck) (v := .warmedUp) (by decide) rfl rfl hq
  · exact exec_heartbeat_answer (k := .heartbeatRunning) (v := .active) (by decide) rfl rfl hq

/-- Some device in a state: the count is not 0. -/
theorem count_ne_zero {reg : Registry} {st : DevState}
    (h : ∃ a, (reg.slot a).present = true ∧ (reg.slot a).state = st) : reg.count st ≠ 0 := by
  obtain ⟨a, hpresent, hstate⟩ := h
  exact fun hzero => (count_eq_zero reg st).mp hzero a hpresent hstate

theorem State.aggregate_settled
    (h : ∀ a, (s.reg.slot a).present = true →
      (s.reg.slot a).state ≠ .warmingUp ∧ (s.reg.slot a).state ≠ .warmedUp) :
    s.aggregate = s.ended .settled := by
  rw [State.aggregate, if_pos ((count_eq_zero _ _).mpr fun a ha => (h a ha).1),
    if_pos ((count_eq_zero _ _).mpr fun a ha => (h a ha).2)]
  rfl

/-- Settles O34: by whether the two counts are 0. -/
theorem heartbeatAggregate : Obligations.HeartbeatAggregate := by
  unfold Obligations.HeartbeatAggregate
  intro s
  refine ⟨State.aggregate_settled, fun hnone hsome => ?_, fun hsome => ?_⟩
  · rw [State.aggregate, if_pos ((count_eq_zero _ _).mpr hnone), if_neg (count_ne_zero hsome)]
    rfl
  · rw [State.aggregate, if_neg (count_ne_zero hsome)]
    rfl

theorem State.endWarmUpFrom_of_next {i : Nat} (h : s.IsNext i n) :
    s.endWarmUpFrom i = s.requesting .warmupComplete n (frameREQ .warmupComplete n) :=
  loopFrom_next h _ _

/-- Past the last device the bus is Repelling, and the poll ends NotSettled (R225, R226). -/
theorem State.endWarmUpFrom_of_none {i : Nat} (h : s.NoneFrom i) :
    s.endWarmUpFrom i = State.ended { s with busState := .repelling } .notSettled :=
  loopFrom_none h _ _

/-- A LedOnAck makes the polled device Active. -/
theorem State.gotLedOn_ack (s : State) (a : Addr) (f : Frame) :
    s.gotLedOn a (some (.ledOnAck, f)) =
      (s.setDevState a .active).endWarmUpFrom (a.toNat + 1) := by
  rw [State.gotLedOn, expect_ok]

/-- Settles O35: the loop from its start, its two exchanges, and its end. -/
theorem endWarmUpExchanges : Obligations.EndWarmUpExchanges := by
  unfold Obligations.EndWarmUpExchanges
  intro a b s
  refine ⟨fun n => State.endWarmUpFrom_of_next, State.endWarmUpFrom_of_none, fun hq => ?_,
    fun hq => ?_⟩
  · rw [exec_answer (i := .warmupCompleteAck b) rfl rfl hq, State.returned, expect_ok]
    rfl
  · have hexec := exec_answer (i := .ledOnAck b) rfl rfl hq
    rw [State.returned, State.gotLedOn_ack] at hexec
    refine ⟨_, hexec, ?_, ?_, fun n hn => ?_, fun hnone => ?_⟩
    all_goals rw [State.endWarmUpFrom_reg]
    · exact Registry.slot_write_self _ _ _
    · exact sameElsewhere_write _ _ _
    · exact State.endWarmUpFrom_of_next ((isNext_write rfl _ n).mpr hn)
    · exact State.endWarmUpFrom_of_none ((noneFrom_write rfl _).mpr hnone)

/-- Settles O36: each continuation is one stretch of code without a wait. -/
theorem broadcastContinuations : Obligations.BroadcastContinuations := by
  unfold Obligations.BroadcastContinuations
  intro s
  exact ⟨rfl, ⟨_, rfl, rfl, s.reg.slot_allOffline⟩, rfl, rfl⟩

/-! ## The commands that run the bus (R226, R228, R229) -/

/-- A command that finds the machine free runs with BUSY at 1 (R220). -/
theorem exec_accepted {op : Byte} (hi : i.code = some op) (hfree : s.busy = false) :
    exec i s = .next (commandBody i { s with busy := true }) := by
  rw [exec_command hi, acceptCommand_free hfree]

theorem powerOnBody_of_offline (hcfg : s.cfgOk = true) (h : s.busState = .offline) :
    powerOnBody s =
      State.startDelay { s with power := true, busState := .powered } .powerSettle
        s.params.powerSettle := by
  rw [powerOnBody, guarded_ok hcfg, if_neg (by simp [h]), if_neg (by simp [h])]

theorem powerOnBody_of_error (hcfg : s.cfgOk = true) (h : s.busState = .error) :
    powerOnBody s = s.ended .refused := by
  rw [powerOnBody, guarded_ok hcfg, if_pos h]
  rfl

theorem powerOnBody_of_on (hcfg : s.cfgOk = true) (hoff : s.busState ≠ .offline)
    (herr : s.busState ≠ .error) : powerOnBody s = s.ended .alreadyOn := by
  rw [powerOnBody, guarded_ok hcfg, if_neg herr, if_pos hoff]
  rfl

/-- Settles O38: PowerOn by the bus state it finds. -/
theorem powerOnByBusState : Obligations.PowerOnByBusState := by
  unfold Obligations.PowerOnByBusState
  intro s hfree hcfg
  rw [exec_accepted (i := .powerOn) rfl hfree]
  exact ⟨fun h => congrArg _ (powerOnBody_of_offline hcfg h),
    fun h => congrArg _ (powerOnBody_of_error hcfg h),
    fun hoff herr => congrArg _ (powerOnBody_of_on hcfg hoff herr)⟩

theorem powerOffBody_of_off (hcfg : s.cfgOk = true)
    (h : s.busState = .offline ∨ s.busState = .error) :
    powerOffBody s = State.ended { s with power := false } .ok := by
  rw [powerOffBody, guarded_ok hcfg, if_pos h]
  rfl

theorem powerOffBody_of_session (hcfg : s.cfgOk = true)
    (h : ¬ (s.busState = .offline ∨ s.busState = .error)) :
    powerOffBody s = s.saveRuntime.requesting .powerDown 0 (frameSYS .powerDown) := by
  rw [powerOffBody, guarded_ok hcfg, if_neg h]
  rfl

/-- A save does not look at BUSY. -/
theorem State.saveRuntime_withBusy (s : State) (b : Bool) :
    State.saveRuntime { s with busy := b } = { s.saveRuntime with busy := b } := by
  by_cases h : s.accrued = s.settings.activeS
  · rw [State.saveRuntime_of_same h]
    exact State.saveRuntime_of_same (s := { s with busy := b }) h
  · rw [State.saveRuntime_of_grown h]
    exact State.saveRuntime_of_grown (s := { s with busy := b }) h

/-- Settles O39: PowerOff by the bus state it finds. -/
theorem powerOffByBusState : Obligations.PowerOffByBusState := by
  unfold Obligations.PowerOffByBusState
  intro s hfree hcfg
  rw [exec_accepted (i := .powerOff) rfl hfree]
  refine ⟨fun h => congrArg _ (powerOffBody_of_off hcfg h), fun hoff herr => ?_⟩
  rw [← State.saveRuntime_withBusy]
  exact congrArg _ (powerOffBody_of_session hcfg (not_or.mpr ⟨hoff, herr⟩))

theorem State.on_iff : s.on = true ↔ s.busState = .warmingUp ∨ s.busState = .repelling := by
  simp [State.on]

theorem heartbeatPollBody_of_off (hcfg : s.cfgOk = true)
    (h : ¬ (s.busState = .warmingUp ∨ s.busState = .repelling)) :
    heartbeatPollBody s = s.ended .notRunning := by
  rw [heartbeatPollBody, guarded_ok hcfg, if_neg (mt State.on_iff.mp h)]
  rfl

/-- With no device there is nothing to warm (R227). -/
theorem State.aggregate_of_empty (h : s.NoneFrom 0) : s.aggregate = s.ended .settled :=
  State.aggregate_settled fun a ha => by simp [h a (Nat.zero_le _)] at ha

theorem State.heartbeatFrom_of_empty (h : s.NoneFrom 0) : s.heartbeatFrom 0 = s.ended .settled :=
  (State.heartbeatFrom_of_none h).trans (State.aggregate_of_empty h)

theorem heartbeatPollBody_of_on (hcfg : s.cfgOk = true)
    (h : s.busState = .warmingUp ∨ s.busState = .repelling) :
    heartbeatPollBody s = State.heartbeatFrom { s with hbLast := s.now } 0 := by
  rw [heartbeatPollBody, guarded_ok hcfg, if_pos (State.on_iff.mpr h)]

theorem heartbeatPollBody_of_next (hcfg : s.cfgOk = true)
    (h : s.busState = .warmingUp ∨ s.busState = .repelling) (hn : s.IsNext 0 n) :
    heartbeatPollBody s =
      State.requesting { s with hbLast := s.now } .heartbeat n (frameREQ .heartbeat n) :=
  (heartbeatPollBody_of_on hcfg h).trans (State.heartbeatFrom_of_next hn)

theorem heartbeatPollBody_of_none (hcfg : s.cfgOk = true)
    (h : s.busState = .warmingUp ∨ s.busState = .repelling) (hnone : s.NoneFrom 0) :
    heartbeatPollBody s = State.ended { s with hbLast := s.now } .settled :=
  (heartbeatPollBody_of_on hcfg h).trans (State.heartbeatFrom_of_empty hnone)

/-- Settles O40: the sweep from its start, and the aggregate over a registry with no device. -/
theorem heartbeatPollStarts : Obligations.HeartbeatPollStarts := by
  unfold Obligations.HeartbeatPollStarts
  intro s hfree hcfg
  rw [exec_accepted (i := .heartbeatPoll) rfl hfree]
  exact ⟨fun hwarm hrep => congrArg _ (heartbeatPollBody_of_off hcfg (not_or.mpr ⟨hwarm, hrep⟩)),
    fun hon => ⟨fun n hn => congrArg _ (heartbeatPollBody_of_next hcfg hon hn),
      fun hnone => congrArg _ (heartbeatPollBody_of_none hcfg hon hnone)⟩⟩

/-! ## Inspection (R231, R233) -/

theorem byteOfAddr_toNat (a : Addr) : (byteOfAddr a).toNat = a.toNat := by
  simp [byteOfAddr]; omega

theorem addrOfByte_toNat {b : Byte} (h : ¬ 0x1F < b) : (addrOfByte b).toNat = b.toNat := by
  simp only [addrOfByte]; bv_omega

theorem Slot.shown_of_present {r : Slot} (h : r.present = true) : r.shown = shownRecord r := by
  simp [Slot.shown, shownRecord, h, Slot.absent]

theorem Registry.record_of_present {reg : Registry} (h : (reg.slot a).present = true) :
    reg.record (byteOfAddr a) = shownRecord (reg.slot a) := by
  have hfind : reg.find (byteOfAddr a) = some a := by
    simp [Registry.find, byteOfAddr_toNat, h]
  rw [Registry.record, hfind]
  exact Slot.shown_of_present h

theorem Registry.record_of_absent {reg : Registry} {b : Byte}
    (h : 0x1F < b ∨ (reg.slot (addrOfByte b)).present = false) : reg.record b = Slot.absent := by
  have hnot : reg.present b.toNat = false := by
    by_cases hb : 0x1F < b
    · exact Bool.eq_false_iff.mpr fun hp => by have := Registry.present_lt hp; bv_omega
    · rw [← addrOfByte_toNat hb, Registry.present_toNat]
      exact h.resolve_left hb
  simp [Registry.record, Registry.find, hnot]

theorem BusState.answer_code {b : BusState} {n : Word32}
    (h : (b, n) ∈ [(BusState.offline, (0 : Word32)), (.powered, 1), (.warmingUp, 2),
      (.repelling, 3), (.error, 4)]) : BitVec.ofNat 32 b.code = n := by
  simp only [List.mem_cons, Prod.mk.injEq, List.not_mem_nil, or_false] at h
  rcases h with ⟨rfl, rfl⟩ | ⟨rfl, rfl⟩ | ⟨rfl, rfl⟩ | ⟨rfl, rfl⟩ | ⟨rfl, rfl⟩ <;> rfl

theorem getBusStateBody_eq {n : Word32} (h : BitVec.ofNat 32 s.busState.code = n) :
    getBusStateBody s = s.ended (.value (.number n)) := by
  rw [getBusStateBody, State.answerNumber, h, State.finish_eq_ended]

theorem getDeviceBody_eq {b : Byte} {r : Slot} (h : s.reg.record b = r) :
    getDeviceBody b s = s.ended (.value (.device r)) := by
  rw [getDeviceBody, h, State.finish_eq_ended]

/-- Settles O47: the queries end with the value they read; the codes are the tables of the spec. -/
theorem inspectionAndRebind : Obligations.InspectionAndRebind := by
  unfold Obligations.InspectionAndRebind
  refine ⟨fun s hfree => ⟨?busState, ?device, ?absent, ?rebind⟩, rfl, rfl, rfl, fun _ => rfl, rfl,
    rfl, rfl⟩
  case busState =>
    rintro ⟨b, n⟩ hp rfl
    rw [exec_accepted (i := .getBusState) rfl hfree]
    exact congrArg _ (getBusStateBody_eq (BusState.answer_code hp))
  case device =>
    intro a ha
    rw [exec_accepted (i := .getDevice (byteOfAddr a)) rfl hfree]
    exact congrArg _ (getDeviceBody_eq (Registry.record_of_present ha))
  case absent =>
    intro b hb
    rw [exec_accepted (i := .getDevice b) rfl hfree]
    exact congrArg _ (getDeviceBody_eq (Registry.record_of_absent hb))
  case rebind => exact exec_accepted (i := .rebind) rfl hfree

end Sys2Proof.Machine

/-! SUPPORT. Proof of the statement about the lifecycle of the bus (R230): which continuation, and which
command, moves BUS_STATE, each in the bus states its procedure runs in under the invariant. -/

namespace Sys2Proof.Machine

-- As in the proofs of the state's statements: no elaborating threads beside those still running.
set_option Elab.async false

variable {s t u : State} {l : Line} {a : Addr} {i : Instr}

/-! ## The transitions of the scheduler's own step (R230) -/

/-- The bus is where it was, or has made one of the transitions of R230 that a continuation makes. -/
def SchedulerMoves (s t : State) : Prop :=
  t.busState = s.busState ∨
  s.busState = .powered ∧ t.busState = .warmingUp ∨
  s.busState = .warmingUp ∧ t.busState = .repelling ∨
  (s.busState = .warmingUp ∨ s.busState = .repelling) ∧ t.busState = .offline

theorem SchedulerMoves.of_same (h : t.busState = s.busState) : SchedulerMoves s t := .inl h

theorem SchedulerMoves.warms (hs : s.busState = .powered) (ht : t.busState = .warmingUp) :
    SchedulerMoves s t := .inr (.inl ⟨hs, ht⟩)

/-- EndWarmUpAll makes the bus Repelling, which it may be already (R225). -/
theorem SchedulerMoves.repels (hs : s.busState = .warmingUp ∨ s.busState = .repelling)
    (ht : t.busState = .repelling) : SchedulerMoves s t := by
  rcases hs with hs | hs
  · exact .inr (.inr (.inl ⟨hs, ht⟩))
  · exact .inl (ht.trans hs.symm)

theorem SchedulerMoves.powersDown (hs : s.busState = .warmingUp ∨ s.busState = .repelling)
    (ht : t.busState = .offline) : SchedulerMoves s t := .inr (.inr (.inr ⟨hs, ht⟩))

/-- What happens first moves no bus state. -/
theorem SchedulerMoves.after (h : u.busState = s.busState) (hm : SchedulerMoves u t) :
    SchedulerMoves s t := by
  rwa [SchedulerMoves, h] at hm

theorem State.loopFrom_busState (l : Line) (i : Nat) {done : State → State}
    (h : (done s).busState = s.busState) : (s.loopFrom l i done).busState = s.busState := by
  rcases loopFrom_cases s l i done with ⟨n, -, heq⟩ | ⟨-, heq⟩
  · rw [heq, State.enter_busState]
  · rw [heq, h]

theorem State.pass1From_busState (s : State) (i : Nat) : (s.pass1From i).busState = s.busState :=
  State.loopFrom_busState _ _ rfl

theorem State.pass2From_busState (s : State) (i : Nat) : (s.pass2From i).busState = s.busState :=
  State.loopFrom_busState _ _ rfl

theorem State.brightnessFrom_busState (s : State) (i : Nat) :
    (s.brightnessFrom i).busState = s.busState :=
  State.loopFrom_busState _ _ rfl

theorem State.aggregate_busState (s : State) : s.aggregate.busState = s.busState := by
  unfold State.aggregate
  split
  · split <;> rfl
  · rfl

theorem State.heartbeatFrom_busState (s : State) (i : Nat) :
    (s.heartbeatFrom i).busState = s.busState :=
  State.loopFrom_busState _ _ s.aggregate_busState

theorem State.expect_busState (s : State) (r : Option (MessageKind × Frame)) (k : MessageKind)
    {onOk : Frame → State → State} (hok : ∀ f, (onOk f s).busState = s.busState) :
    (s.expect r k onOk).busState = s.busState :=
  State.expect_induct (P := fun t => t.busState = s.busState) rfl (fun _ => rfl) hok

/-- RetrieveSerials stays in Powered, or ends and enters WarmingUp (R228). -/
theorem State.retrieveFrom_moves (h : s.busState = .powered) (i : Nat) :
    SchedulerMoves s (s.retrieveFrom i) := by
  unfold State.retrieveFrom
  split
  · split <;> exact .of_same rfl
  · exact .warms h (State.pass1From_busState _ 0)

theorem State.discoveryLoop_moves (h : s.busState = .powered) :
    SchedulerMoves s s.discoveryLoop := by
  unfold State.discoveryLoop
  split
  · exact .of_same rfl
  · exact State.retrieveFrom_moves h 0

theorem State.productive_moves (h : s.busState = .powered) : SchedulerMoves s s.productive :=
  State.discoveryLoop_moves (s := { s with noresp := 0 }) h

theorem State.unproductive_moves (h : s.busState = .powered) : SchedulerMoves s s.unproductive :=
  State.discoveryLoop_moves (s := { s with noresp := s.noresp + 1 }) h

theorem State.discovered_moves (h : s.busState = .powered) (r : Option (MessageKind × Frame)) :
    SchedulerMoves s (s.discovered r) := by
  unfold State.discovered
  split
  · exact State.unproductive_moves h
  · exact .after (State.register_busState s _) (State.productive_moves h)
  · dsimp only
    split
    · exact .after (State.raise_busState s _ _) (State.unproductive_moves h)
    · exact .of_same rfl
  · exact .after (State.raise_busState s _ _) (State.unproductive_moves h)

theorem State.gotSerial1_moves (h : s.busState = .powered) (r : Option (MessageKind × Frame)) :
    SchedulerMoves s (s.gotSerial1 a r) := by
  unfold State.gotSerial1
  extract_lets s1
  have hs1 : s1.busState = s.busState := s.expect_busState r _ fun _ => rfl
  split
  · exact .after hs1 (State.retrieveFrom_moves (hs1.trans h) _)
  · exact .of_same hs1

theorem State.gotSerial2_moves (h : s.busState = .powered) (r : Option (MessageKind × Frame)) :
    SchedulerMoves s (s.gotSerial2 a r) := by
  unfold State.gotSerial2
  extract_lets s1
  have hs1 : s1.busState = s.busState := s.expect_busState r _ fun _ => rfl
  exact .after hs1 (State.retrieveFrom_moves (hs1.trans h) _)

theorem State.gotWarmup_busState (s : State) (a : Addr) (r : Option (MessageKind × Frame)) :
    (s.gotWarmup a r).busState = s.busState :=
  (State.pass1From_busState _ _).trans (s.expect_busState r _ fun _ => rfl)

theorem State.gotHeartbeat_busState (s : State) (a : Addr) (r : Option (MessageKind × Frame)) :
    (s.gotHeartbeat a r).busState = s.busState := by
  unfold State.gotHeartbeat
  rw [State.heartbeatFrom_busState]
  split <;> rfl

/-- EndWarmUpAll goes on, or ends with the bus Repelling (R225). -/
theorem State.endWarmUpFrom_moves (h : s.busState = .warmingUp ∨ s.busState = .repelling) (i : Nat) :
    SchedulerMoves s (s.endWarmUpFrom i) := by
  rcases loopFrom_cases s .warmupComplete i
    fun s => State.finish { s with busState := .repelling } .notSettled with ⟨n, -, heq⟩ | ⟨-, heq⟩
  · rw [State.endWarmUpFrom, heq]
    exact .of_same rfl
  · rw [State.endWarmUpFrom, heq]
    exact .repels h rfl

theorem State.gotLedOn_moves (h : s.busState = .warmingUp ∨ s.busState = .repelling)
    (r : Option (MessageKind × Frame)) : SchedulerMoves s (s.gotLedOn a r) := by
  unfold State.gotLedOn
  extract_lets s1
  have hs1 : s1.busState = s.busState := s.expect_busState r _ fun _ => rfl
  exact .after hs1 (State.endWarmUpFrom_moves (by rwa [hs1]) _)

/-- The code after an exchange, in a bus state its procedure runs in. -/
theorem State.returned_moves (h : l.proc.runsIn s.busState = true)
    (r : Option (MessageKind × Frame)) : SchedulerMoves s (s.returned l a r) := by
  have hpowered : ∀ {b : BusState}, Proc.discovery.runsIn b = true → b = .powered :=
    of_decide_eq_true
  cases l with
  | discover => exact State.discovered_moves (hpowered h) r
  | setAddress => exact .after (State.register_busState s a) (State.productive_moves (hpowered h))
  | serial1 => exact State.gotSerial1_moves (hpowered h) r
  | serial2 => exact State.gotSerial2_moves (hpowered h) r
  | warmup => exact .of_same (s.gotWarmup_busState a r)
  | colorStartup | brightnessStartup | warmupComplete =>
    exact .of_same (s.expect_busState r _ fun _ => rfl)
  | startupComplete =>
    exact .of_same ((State.pass2From_busState _ _).trans (s.expect_busState r _ fun _ => rfl))
  | heartbeat => exact .of_same (s.gotHeartbeat_busState a r)
  | ledOnConfirm => exact State.gotLedOn_moves ((Proc.runsIn_on_iff _).mp h) r
  | ledBrightness =>
    exact .of_same ((State.brightnessFrom_busState _ _).trans (s.expect_busState r _ fun _ => rfl))
  | powerUp | rePowerUp | powerDown | color | colorConfirm => exact .of_same rfl

/-- The code after a broadcast. -/
theorem State.sent_moves (h : l.proc.runsIn s.busState = true) : SchedulerMoves s (s.sent l) := by
  cases l with
  | powerUp => exact State.discoveryLoop_moves (s := { s with noresp := 0 }) (of_decide_eq_true h)
  | rePowerUp => exact State.endWarmUpFrom_moves ((Proc.runsIn_on_iff _).mp h) 0
  | powerDown => exact .powersDown ((Proc.runsIn_on_iff _).mp h) rfl
  | _ => exact .of_same rfl

/-- The code after a delay. -/
theorem State.delayed_busState (s : State) (d : DelayLine) : (s.delayed d).busState = s.busState := by
  cases d with
  | powerSettle => rfl
  | warmupSettle => exact s.pass2From_busState 0

/-! ## The scheduler's own step (R271) -/

theorem State.writeByte_busState (s : State) (l : Line) (a : Addr) (i : Fin 11) (txReady : Bool) :
    (s.writeByte l a i txReady).busState = s.busState := by
  have hnote : (if i = 0 then { s with firstWrite := s.now } else s).busState = s.busState := by
    split <;> rfl
  unfold State.writeByte
  split
  · dsimp only
    split <;> exact hnote
  · rfl

theorem State.advance_moves (h : s.Inv) (txReady txIdle : Bool) :
    SchedulerMoves s (s.advance txReady txIdle) := by
  unfold State.advance
  split
  · exact .of_same rfl
  · split
    · exact .of_same (s.delayed_busState _)
    · exact .of_same rfl
  · split <;> exact .of_same rfl
  · exact .of_same (s.writeByte_busState _ _ _ _)
  · split <;> exact .of_same rfl
  · split
    · exact .of_same (by rw [State.endTransmit_eq])
    · exact .of_same rfl
  · next l a hq =>
    split
    · exact State.sent_moves ((State.inv_line_iff hq).mp h).runs
    · exact .of_same rfl
  · exact .of_same rfl
  · exact .of_same rfl

/-- A frame in the wait loop ends the exchange. -/
theorem deliver_returns (hq : s.seq = .line l a .answer) (f : Frame) :
    ∃ r, deliver l a f s = .next (s.returned l a r) := by
  unfold deliver
  split
  · next i hd =>
    obtain ⟨g, hg, -⟩ := exec_frame (decodeFrame_kind hd) s
    exact ⟨_, exec_answer (decodeFrame_kind hd) hg hq⟩
  · exact ⟨_, rfl⟩

/-- One pass of the wait loop ends the exchange or goes on waiting, after events that move neither SEQ nor
the bus state (R203). -/
theorem waitPass_cases (hq : s.seq = .line l a .answer) (e : Option Frame) :
    ∃ u : State, u.busState = s.busState ∧
      (waitPass l a e s = .next u ∨ ∃ r, waitPass l a e s = .next (u.returned l a r)) := by
  cases e with
  | some f => exact ⟨s, rfl, .inr (deliver_returns hq f)⟩
  | none =>
    cases hp : s.deframe none with
    | mk u out =>
      have hu : (s.deframe none).1 = u := by rw [hp]
      have hbus : u.busState = s.busState := by rw [← hu]; rfl
      cases out with
      | some f =>
        have huq : u.seq = .line l a .answer := by rw [← hu]; exact hq
        exact ⟨u, hbus, .inr (waitPass_polled hp ▸ deliver_returns huq f)⟩
      | none =>
        rcases Bool.eq_false_or_eq_true u.waitOver with hover | hover
        · exact ⟨u.raise .timeout (l.request a u.settings)[1], hbus,
            .inr ⟨none, waitPass_timedOut hp hover⟩⟩
        · exact ⟨u, hbus, .inl (waitPass_waiting hp hover)⟩

/-- The scheduler's own step makes no transition but those of R230. -/
theorem schedulerStep_moves (h : s.Inv) {txReady txIdle : Bool} {e : Option Frame}
    (hstep : schedulerStep txReady txIdle e s = .next t) : SchedulerMoves s t := by
  have hdrop := State.dropStale_inv h e
  have hbus : (s.dropStale e).busState = s.busState := by cases e <;> rfl
  unfold schedulerStep at hstep
  split at hstep
  · next l a hq =>
    have hruns := ((State.inv_line_iff hq).mp h).runs
    obtain ⟨u, hu, heq | ⟨r, heq⟩⟩ := waitPass_cases hq e
    · cases heq.symm.trans hstep
      exact .of_same hu
    · cases heq.symm.trans hstep
      exact .after hu (State.returned_moves (hu ▸ hruns) r)
  · next l a hq =>
    have hline := (State.inv_line_iff ((s.dropStale_seq e).trans hq)).mp hdrop
    cases (hline.transmitPass_eq ((s.dropStale_seq e).trans hq)).symm.trans hstep
    exact .of_same hbus
  all_goals
    cases hstep
    exact .after hbus (State.advance_moves hdrop txReady txIdle)

/-! ## Command acceptance -/

/-- The bus is where it was, or PowerOn has powered it, or the guard has parked it in Error (R228, R266). -/
def CommandMoves (s t : State) : Prop :=
  t.busState = s.busState ∨
  s.busState = .offline ∧ t.busState = .powered ∧ s.cfgOk = true ∨
  s.busState ≠ .error ∧ t.busState = .error ∧ s.cfgOk = false

/-- A guarded command moves the bus as its body does, or traps (R265). -/
theorem guarded_moves {body : State → State} (h : s.cfgOk = true → CommandMoves s (body s)) :
    CommandMoves s (s.guarded body) := by
  cases hcfg : s.cfgOk with
  | true => rw [guarded_ok hcfg]; exact h hcfg
  | false =>
    rw [guarded_bad hcfg]
    split
    · exact .inl rfl
    · next herr => exact .inr (.inr ⟨herr, s.enterError_busState, hcfg⟩)

theorem powerOnBody_moves (s : State) : CommandMoves s (powerOnBody s) := by
  refine guarded_moves fun hcfg => ?_
  split
  · exact .inl rfl
  · split
    · exact .inl rfl
    · next hoff => exact .inr (.inl ⟨not_not.mp hoff, rfl, hcfg⟩)

theorem powerOffBody_moves (s : State) : CommandMoves s (powerOffBody s) := by
  refine guarded_moves fun _ => ?_
  split
  · exact .inl rfl
  · exact .inl s.saveRuntime_busState

theorem heartbeatPollBody_moves (s : State) : CommandMoves s (heartbeatPollBody s) := by
  refine guarded_moves fun _ => ?_
  split
  · exact .inl (State.heartbeatFrom_busState _ 0)
  · exact .inl rfl

theorem setRGBBody_moves (r g b : Byte) (s : State) : CommandMoves s (setRGBBody r g b s) := by
  refine guarded_moves fun _ => ?_
  split
  · exact .inl rfl
  · dsimp only
    split <;> exact .inl rfl

theorem setBrightnessBody_moves (v : Byte) (s : State) : CommandMoves s (setBrightnessBody v s) := by
  refine guarded_moves fun _ => ?_
  split
  · exact .inl rfl
  · dsimp only
    split
    · exact .inl (State.brightnessFrom_busState _ 0)
    · exact .inl rfl

theorem setWarnAtBody_busState (v : Word32) (s : State) :
    (setWarnAtBody v s).busState = s.busState := by
  unfold setWarnAtBody
  split <;> rfl

theorem setAutoShutoffBody_busState (v : Word32) (s : State) :
    (setAutoShutoffBody v s).busState = s.busState := by
  unfold setAutoShutoffBody
  split <;> rfl

theorem loadSettingsBody_busState (bytes : List Byte) (s : State) :
    (loadSettingsBody bytes s).busState = s.busState := by
  unfold loadSettingsBody
  split <;> rfl

/-- Only the guarded commands move the bus. -/
theorem commandBody_moves (i : Instr) (s : State) : CommandMoves s (commandBody i s) := by
  cases i with
  | powerOn => exact powerOnBody_moves s
  | powerOff => exact powerOffBody_moves s
  | heartbeatPoll => exact heartbeatPollBody_moves s
  | setRGB r g b => exact setRGBBody_moves r g b s
  | setBrightness v => exact setBrightnessBody_moves v s
  | saveRuntime => exact .inl s.saveRuntime_busState
  | setWarnAt v => exact .inl (setWarnAtBody_busState v s)
  | setAutoShutoff v => exact .inl (setAutoShutoffBody_busState v s)
  | loadSettings bytes => exact .inl (loadSettingsBody_busState bytes s)
  | _ => exact .inl rfl

theorem acceptStep_moves {cmd : Option Cmd} (h : acceptStep cmd s = .next t) : CommandMoves s t := by
  rcases acceptStep_cases cmd s with ⟨-, heq⟩ | ⟨c, r, -, -, -, heq⟩ | ⟨c, i, -, hfree, hd, heq⟩
  · cases heq.symm.trans h
    exact .inl rfl
  · cases heq.symm.trans h
    exact .inl rfl
  · obtain ⟨op, hop⟩ := decodeCmd_code hd
    cases (heq.trans (exec_accepted hop hfree)).symm.trans h
    exact commandBody_moves i { s with busy := true }

/-- Settles O58: the transitions of the continuations, which run in the bus states the invariant gives
their procedures, and the transitions of the commands. -/
theorem busLifecycle : Obligations.BusLifecycle := by
  unfold Obligations.BusLifecycle
  exact fun s t h => ⟨fun _ _ _ => schedulerStep_moves h, fun _ => acceptStep_moves⟩

end Sys2Proof.Machine

/-! SUPPORT. Proofs of the statements about settings and accounting (`45_settings_accounting.md`). First the
arithmetic: the percentage, the brightness scale, numbers as little-endian bytes, the record. Then what
a save counts, the setters by whether the value held changes, and the queries. -/

namespace Sys2Proof.Machine

-- As in the proofs of the state's statements: no elaborating threads beside those still running.
set_option Elab.async false

variable {s : State} {n : Addr}

/-! ## Percent left (R251) -/

theorem percentLeft_zero (active : Word32) : percentLeft active 0 = 100 := if_pos rfl

/-- One quotient covers both sides of the threshold: past it the rest, a natural difference, is 0. -/
theorem percentLeft_eq_div {warnAt : Word32} (h : warnAt ≠ 0) (active : Word32) :
    percentLeft active warnAt = 100 * (warnAt.toNat - active.toNat) / warnAt.toNat := by
  rw [percentLeft, if_neg h]
  split
  · next hle =>
    have hrest : warnAt.toNat - active.toNat = 0 := Nat.sub_eq_zero_of_le hle
    rw [hrest, Nat.mul_zero, Nat.zero_div]
  · rfl

theorem percentLeft_le (active warnAt : Word32) : percentLeft active warnAt ≤ 100 := by
  by_cases h : warnAt = 0
  · rw [h, percentLeft_zero]
  · rw [percentLeft_eq_div h]
    exact Nat.div_le_of_le_mul (by omega)

theorem percentLeft_antitone {active active' : Word32} (h : active ≤ active') (warnAt : Word32) :
    percentLeft active' warnAt ≤ percentLeft active warnAt := by
  by_cases hw : warnAt = 0
  · rw [hw, percentLeft_zero, percentLeft_zero]
  · rw [percentLeft_eq_div hw, percentLeft_eq_div hw]
    exact Nat.div_le_div_right (Nat.mul_le_mul_left _ (Nat.sub_le_sub_left h _))

theorem percentLeft_of_past {active warnAt : Word32} (hw : warnAt ≠ 0) (h : warnAt ≤ active) :
    percentLeft active warnAt = 0 := by
  rw [percentLeft, if_neg hw, if_pos h]

/-- Settles O50: the bounds and the monotony of one quotient. -/
theorem percentLeftMonotone : Obligations.PercentLeftMonotone := by
  unfold Obligations.PercentLeftMonotone
  exact fun active active' warnAt => ⟨percentLeft_le active warnAt,
    fun h => percentLeft_antitone h warnAt, percentLeft_of_past, percentLeft_zero active⟩

/-! ## The brightness scale (R244) -/

/-- On the legal host scale the level fits its byte. -/
theorem levelOf_toNat {b : Byte} (h : b ≤ 254) :
    (levelOf b).toNat = (100 * b.toNat + 127) / 254 := by
  have hb : b.toNat ≤ 254 := h
  rw [levelOf, BitVec.toNat_ofNat, Nat.mod_eq_of_lt (by omega)]

theorem levelOf_mono {b c : Byte} (hbc : b ≤ c) (hc : c ≤ 254) : levelOf b ≤ levelOf c := by
  have hle : b.toNat ≤ c.toNat := hbc
  rw [BitVec.le_def, levelOf_toNat hc, levelOf_toNat (BitVec.le_trans hbc hc)]
  exact Nat.div_le_div_right (by omega)

/-- Settles O51: rounding to nearest is the quotient with half the divisor added. -/
theorem levelOfRounds : Obligations.LevelOfRounds := by
  unfold Obligations.LevelOfRounds
  refine ⟨fun b hb => ?_, fun b c => levelOf_mono, rfl, rfl⟩
  have hlevel := levelOf_toNat hb
  exact ⟨hlevel, levelOf_le hb, by omega, by omega⟩

/-! ## Numbers as bytes (R74, R240) -/

/-- A byte below a word: the digits of base 256. -/
theorem append_byte_toNat {w : Nat} (x : BitVec w) (b : Byte) :
    (x ++ b).toNat = b.toNat + 2 ^ 8 * x.toNat := by
  rw [BitVec.toNat_append, ← Nat.shiftLeft_add_eq_or_of_lt b.isLt, Nat.shiftLeft_eq]
  omega

theorem le16_toNat (b0 b1 : Byte) : (le16 b0 b1).toNat = b0.toNat + 2 ^ 8 * b1.toNat :=
  append_byte_toNat b1 b0

theorem le32_toNat (b0 b1 b2 b3 : Byte) :
    (le32 b0 b1 b2 b3).toNat =
      b0.toNat + 2 ^ 8 * b1.toNat + 2 ^ 16 * b2.toNat + 2 ^ 24 * b3.toNat := by
  simp only [le32, append_byte_toNat]
  omega

theorem byteOf_toNat (w : Word32) (j : Nat) : (byteOf w j).toNat = w.toNat / 256 ^ j % 256 := by
  rw [byteOf, BitVec.extractLsb'_toNat, Nat.shiftRight_eq_div_pow, Nat.pow_mul]

/-- A number is the number of its bytes. -/
theorem le32_byteOf (w : Word32) :
    le32 (byteOf w 0) (byteOf w 1) (byteOf w 2) (byteOf w 3) = w := by
  have hlt := w.isLt
  apply BitVec.eq_of_toNat_eq
  simp only [le32_toNat, byteOf_toNat]
  omega

theorem le16_extractLsb' (w : BitVec 16) : le16 (w.extractLsb' 0 8) (w.extractLsb' 8 8) = w := by
  have hlt := w.isLt
  apply BitVec.eq_of_toNat_eq
  simp only [le16_toNat, BitVec.extractLsb'_toNat, Nat.shiftRight_eq_div_pow]
  omega

/-! ## Normalisation (R243) -/

theorem clampBright_eq (v : Byte) : clampBright v = if v = 255 then 254 else v := by
  revert v; decide

theorem clampBright_toNat (v : Byte) : (clampBright v).toNat = min v.toNat 254 := by
  revert v; decide

theorem clampBright_of_legal {v : Byte} (h : v ≤ 254) : clampBright v = v :=
  if_neg (BitVec.not_lt.mpr h)

theorem clampShutoff_toNat (seconds : Nat) :
    (clampShutoff seconds).toNat = if 57600 < seconds then 18000 else seconds := by
  unfold clampShutoff
  split
  · next h => exact (if_pos h).symm
  · next h =>
    have hle : seconds ≤ 57600 := Nat.le_of_not_lt h
    rw [if_neg (Nat.not_lt.mpr hle), BitVec.toNat_ofNat, Nat.mod_eq_of_lt (by omega)]

theorem clampShutoff_of_legal {w : BitVec 16} (h : w ≤ 57600) : clampShutoff w.toNat = w := by
  have hle : w.toNat ≤ 57600 := h
  apply BitVec.eq_of_toNat_eq
  rw [clampShutoff_toNat, if_neg (Nat.not_lt.mpr hle)]

/-! ## The record (R240, R242) -/

/-- Loading a saved record normalises the registers and does nothing else. -/
theorem settingsOfRecord_recordOf (r : Settings) :
    settingsOfRecord (recordOf r) =
      { r with bright := clampBright r.bright, autoShutoff := clampShutoff r.autoShutoff.toNat } := by
  have hactive := le32_byteOf r.activeS
  have hwarn := le32_byteOf r.warnAt
  have hshutoff := le16_extractLsb' r.autoShutoff
  simp [settingsOfRecord, recordOf, hactive, hwarn, hshutoff]

theorem settingsOfRecord_recordOf_of_legal {r : Settings} (h : r.Legal) :
    settingsOfRecord (recordOf r) = r := by
  obtain ⟨hbright, hshutoff⟩ := h
  rw [settingsOfRecord_recordOf, clampBright_of_legal hbright, clampShutoff_of_legal hshutoff]

/-- Settles O52: the two counters stand in the record as their bytes, and legal registers are normalised
already. -/
theorem recordRoundTrip : Obligations.RecordRoundTrip := by
  unfold Obligations.RecordRoundTrip
  intro r
  refine ⟨rfl, rfl, rfl, rfl, fun j hj => ?counters, ?low, ?high,
    settingsOfRecord_recordOf_of_legal⟩
  case counters =>
    obtain ⟨hactive, hwarn⟩ : (recordOf r)[4 + j] = byteOf r.activeS j ∧
        (recordOf r)[8 + j] = byteOf r.warnAt j := by
      match j, hj with
      | 0, _ | 1, _ | 2, _ | 3, _ => exact ⟨rfl, rfl⟩
    rw [hactive, hwarn]
    exact ⟨byteOf_toNat _ j, byteOf_toNat _ j⟩
  case low => exact BitVec.extractLsb'_toNat 0 8 r.autoShutoff
  case high =>
    have hlt := r.autoShutoff.isLt
    have hhigh : (recordOf r)[13] = r.autoShutoff.extractLsb' 8 8 := rfl
    rw [hhigh, BitVec.extractLsb'_toNat, Nat.shiftRight_eq_div_pow]
    omega

/-! ## LoadSettings (R242) -/

/-- Settles O46: the record is the first fourteen bytes, and each register is read from its own. -/
theorem loadSettingsReplacesAll : Obligations.LoadSettingsReplacesAll := by
  unfold Obligations.LoadSettingsReplacesAll
  intro bytes s hfree
  rw [exec_accepted (i := .loadSettings bytes) rfl hfree]
  constructor
  · intro hshort
    exact congrArg _ (if_pos hshort)
  · intro hwhole
    refine ⟨settingsOfRecord (argBytes bytes), congrArg _ (if_neg (Nat.not_lt.mpr hwhole)),
      rfl, rfl, rfl, clampBright_toNat _, le32_toNat _ _ _ _, le32_toNat _ _ _ _, ?_⟩
    exact (clampShutoff_toNat _).trans (by rw [le16_toNat]; rfl)

/-! ## SaveRuntime (R250) -/

/-- A save, whether it counts active time or not. -/
theorem State.saveRuntime_eq (s : State) :
    s.saveRuntime = { s with
      settings := { s.settings with activeS := s.accrued }
      saveT := s.now
      saveLog := if s.accrued = s.settings.activeS then s.saveLog
        else s.saveLog ++ [recordOf { s.settings with activeS := s.accrued }] } := by
  by_cases h : s.accrued = s.settings.activeS
  · rw [State.saveRuntime_of_same h, if_pos h, h]
  · rw [State.saveRuntime_of_grown h, if_neg h]
    rfl

theorem satAdd_toNat (active : Word32) (seconds : Nat) :
    (satAdd active seconds).toNat = min (active.toNat + seconds) (2 ^ 32 - 1) := by
  rw [satAdd, BitVec.toNat_ofNat, Nat.mod_eq_of_lt (by omega)]

theorem State.accrued_toNat (s : State) :
    s.accrued.toNat =
      if s.busState = .warmingUp ∨ s.busState = .repelling then
        min (s.settings.activeS.toNat + (s.now - s.saveT).toNat / 1000) (2 ^ 32 - 1)
      else s.settings.activeS.toNat := by
  simp only [← State.on_iff]
  unfold State.accrued
  split
  · exact satAdd_toNat _ _
  · rfl

/-- Settles O41: the save does not look at BUSY, and ACTIVE_S after it is `accrued`. -/
theorem saveRuntimeAccrues : Obligations.SaveRuntimeAccrues := by
  unfold Obligations.SaveRuntimeAccrues
  intro s hfree
  refine ⟨s.saveRuntime.ended .ok, ?_, ?_, ?_⟩
  · have hbody : (State.saveRuntime { s with busy := true }).finish .ok =
        s.saveRuntime.ended .ok := by
      rw [State.saveRuntime_withBusy]
      rfl
    exact (exec_accepted (i := .saveRuntime) rfl hfree).trans (congrArg _ hbody)
  · rw [State.saveRuntime_eq]
    rfl
  · rw [State.ended_settings, State.saveRuntime_settings]
    exact s.accrued_toNat

/-! ## The setters (R245 to R248) -/

theorem setRGBBody_of_same {r g b : Byte} (hcfg : s.cfgOk = true)
    (h : (r, g, b) = (s.settings.red, s.settings.green, s.settings.blue)) :
    setRGBBody r g b s = s.ended .unchanged := by
  rw [setRGBBody, guarded_ok hcfg, if_pos (by simpa using h)]
  rfl

/-- Another colour is written and recorded; with the bus not On that is all. -/
theorem setRGBBody_of_other_off {r g b : Byte} (hcfg : s.cfgOk = true)
    (h : (r, g, b) ≠ (s.settings.red, s.settings.green, s.settings.blue))
    (hoff : ¬ (s.busState = .warmingUp ∨ s.busState = .repelling)) :
    setRGBBody r g b s =
      State.ended (.persist
        { s with settings := { s.settings with red := r, green := g, blue := b } }) .changed := by
  rw [setRGBBody, guarded_ok hcfg, if_neg (by simpa using h)]
  exact if_neg (mt State.on_iff.mp hoff)

/-- While the bus is On it is broadcast as well. -/
theorem setRGBBody_of_other_on {r g b : Byte} (hcfg : s.cfgOk = true)
    (h : (r, g, b) ≠ (s.settings.red, s.settings.green, s.settings.blue))
    (hon : s.busState = .warmingUp ∨ s.busState = .repelling) :
    setRGBBody r g b s =
      State.requesting (.persist
        { s with settings := { s.settings with red := r, green := g, blue := b } })
        .color 0 (frameBCC .color r g b) := by
  rw [setRGBBody, guarded_ok hcfg, if_neg (by simpa using h)]
  exact if_pos (State.on_iff.mpr hon)

/-- Settles O42: by whether the colour changes, and then by whether the bus is On. -/
theorem setRGBWritesAndBroadcasts : Obligations.SetRGBWritesAndBroadcasts := by
  unfold Obligations.SetRGBWritesAndBroadcasts
  rintro r g b s s' hfree hcfg rfl
  rw [exec_accepted (i := .setRGB r g b) rfl hfree]
  refine ⟨fun hsame => congrArg _ (setRGBBody_of_same hcfg hsame), fun hother => ⟨?off, ?on⟩⟩
  case off =>
    intro hwarm hrep
    exact congrArg _ (setRGBBody_of_other_off hcfg hother (not_or.mpr ⟨hwarm, hrep⟩))
  case on => exact fun hon => congrArg _ (setRGBBody_of_other_on hcfg hother hon)

theorem State.brightnessFrom_of_next {i : Nat} (h : s.IsNext i n) :
    s.brightnessFrom i =
      s.requesting .ledBrightness n (frameREQL .ledBrightness n (levelOf s.settings.bright)) :=
  loopFrom_next h _ _

theorem State.brightnessFrom_of_none {i : Nat} (h : s.NoneFrom i) :
    s.brightnessFrom i = s.ended .changed := loopFrom_none h _ _

theorem setBrightnessBody_of_same {v : Byte} (hcfg : s.cfgOk = true)
    (h : clampBright v = s.settings.bright) : setBrightnessBody v s = s.ended .unchanged := by
  rw [setBrightnessBody, guarded_ok hcfg, if_pos h]
  rfl

/-- Another value is written and recorded; with the bus not On that is all. -/
theorem setBrightnessBody_of_other_off {v : Byte} (hcfg : s.cfgOk = true)
    (h : clampBright v ≠ s.settings.bright)
    (hoff : ¬ (s.busState = .warmingUp ∨ s.busState = .repelling)) :
    setBrightnessBody v s =
      State.ended (.persist { s with settings := { s.settings with bright := clampBright v } })
        .changed := by
  rw [setBrightnessBody, guarded_ok hcfg, if_neg h]
  exact if_neg (mt State.on_iff.mp hoff)

/-- While the bus is On the devices are visited as well. -/
theorem setBrightnessBody_of_other_on {v : Byte} (hcfg : s.cfgOk = true)
    (h : clampBright v ≠ s.settings.bright)
    (hon : s.busState = .warmingUp ∨ s.busState = .repelling) :
    setBrightnessBody v s =
      State.brightnessFrom
        (.persist { s with settings := { s.settings with bright := clampBright v } }) 0 := by
  rw [setBrightnessBody, guarded_ok hcfg, if_neg h]
  exact if_pos (State.on_iff.mpr hon)

theorem setBrightnessBody_of_other_next {v : Byte} (hcfg : s.cfgOk = true)
    (h : clampBright v ≠ s.settings.bright)
    (hon : s.busState = .warmingUp ∨ s.busState = .repelling) (hn : s.IsNext 0 n) :
    setBrightnessBody v s =
      State.requesting
        (.persist { s with settings := { s.settings with bright := clampBright v } })
        .ledBrightness n (frameREQL .ledBrightness n (levelOf (clampBright v))) :=
  (setBrightnessBody_of_other_on hcfg h hon).trans (State.brightnessFrom_of_next hn)

theorem setBrightnessBody_of_other_none {v : Byte} (hcfg : s.cfgOk = true)
    (h : clampBright v ≠ s.settings.bright)
    (hon : s.busState = .warmingUp ∨ s.busState = .repelling) (hnone : s.NoneFrom 0) :
    setBrightnessBody v s =
      State.ended (.persist { s with settings := { s.settings with bright := clampBright v } })
        .changed :=
  (setBrightnessBody_of_other_on hcfg h hon).trans (State.brightnessFrom_of_none hnone)

/-- Settles O43: by whether the value held changes, whether the bus is On, and the loop from its start. -/
theorem setBrightnessVisitsDevices : Obligations.SetBrightnessVisitsDevices := by
  unfold Obligations.SetBrightnessVisitsDevices
  rintro v s s' hfree hcfg rfl
  rw [exec_accepted (i := .setBrightness v) rfl hfree, ← clampBright_eq]
  refine ⟨fun hsame => congrArg _ (setBrightnessBody_of_same hcfg hsame),
    fun hother => ⟨?off, fun hon => ⟨?next, ?none⟩⟩⟩
  case off =>
    intro hwarm hrep
    exact congrArg _ (setBrightnessBody_of_other_off hcfg hother (not_or.mpr ⟨hwarm, hrep⟩))
  case next =>
    exact fun n hn => congrArg _ (setBrightnessBody_of_other_next hcfg hother hon hn)
  case none =>
    exact fun hnone => congrArg _ (setBrightnessBody_of_other_none hcfg hother hon hnone)

/-- Settles O44: the acknowledgement is the expected answer and writes nothing, so the loop goes on. -/
theorem ledBrightnessAckGoesOn : Obligations.LedBrightnessAckGoesOn := by
  unfold Obligations.LedBrightnessAckGoesOn
  intro a b s hq
  rw [exec_answer (i := .ledBrightnessAck b) rfl rfl hq, State.returned, expect_ok]
  exact ⟨fun n hn => by rw [State.brightnessFrom_of_next hn],
    fun hnone => by rw [State.brightnessFrom_of_none hnone]⟩

/-- Settles O45: by whether the value held changes; the normalised operand is the one of its number. -/
theorem setThresholds : Obligations.SetThresholds := by
  unfold Obligations.SetThresholds
  intro v s hfree
  rw [exec_accepted (i := .setWarnAt v) rfl hfree,
    exec_accepted (i := .setAutoShutoff v) rfl hfree]
  refine ⟨fun hsame => congrArg _ (if_pos hsame), fun hother => congrArg _ (if_neg hother),
    fun n hn => ?_⟩
  obtain rfl : clampShutoff v.toNat = n :=
    BitVec.eq_of_toNat_eq ((clampShutoff_toNat _).trans hn.symm)
  exact ⟨fun hsame => congrArg _ (if_pos hsame), fun hother => congrArg _ (if_neg hother)⟩

/-! ## The accounting queries (R232, R251, R252) -/

theorem State.inFlight_eq (s : State) :
    s.inFlight =
      if s.busState = .warmingUp ∨ s.busState = .repelling then (s.now - s.saveT).toNat / 1000
      else 0 := by
  simp only [← State.on_iff]
  rfl

/-- The hours of any counter and session fit the answer. -/
theorem hoursOf_inFlight_lt (s : State) : hoursOf s.settings.activeS s.inFlight < 2 ^ 32 := by
  have hactive := s.settings.activeS.isLt
  have helapsed := (s.now - s.saveT).isLt
  rw [hoursOf, s.inFlight_eq]
  split <;> omega

theorem State.hbDue_iff :
    s.hbDue = true ↔
      (s.busState = .warmingUp ∨ s.busState = .repelling) ∧ 15000 ≤ s.now - s.hbLast := by
  rw [State.hbDue, Bool.and_eq_true, decide_eq_true_iff, State.on_iff]
  rfl

theorem getHeartbeatDueBody_eq (s : State) :
    getHeartbeatDueBody s = s.ended (.value (.number (if s.hbDue then 1 else 0))) := by
  unfold getHeartbeatDueBody
  split <;> rfl

/-- Settles O48: each query ends with its number, which fits 32 bits. -/
theorem accountingQueries : Obligations.AccountingQueries := by
  unfold Obligations.AccountingQueries
  intro s hfree
  refine ⟨⟨_, exec_accepted (i := .getRuntimeHours) rfl hfree, ?hours⟩,
    ⟨_, exec_accepted (i := .getPercentLeft) rfl hfree, ?percent⟩, ?due⟩
  case hours =>
    rw [← s.inFlight_eq]
    exact (BitVec.toNat_ofNat _ _).trans (Nat.mod_eq_of_lt (hoursOf_inFlight_lt s))
  case percent =>
    have hle := percentLeft_le s.settings.activeS s.settings.warnAt
    exact (BitVec.toNat_ofNat _ _).trans (Nat.mod_eq_of_lt (Nat.lt_of_le_of_lt hle (by decide)))
  case due =>
    simp only [← State.hbDue_iff]
    exact (exec_accepted (i := .getHeartbeatDue) rfl hfree).trans
      (congrArg _ (getHeartbeatDueBody_eq _))

end Sys2Proof.Machine

/-! SUPPORT. Proofs of the statements about the Error trap: what `ConfigGuard` does with `cfg_ok` = 0
(R265, R266), and that nothing but reset leaves Error (R267). -/

namespace Sys2Proof.Machine

-- As in the proofs of the state's statements: no elaborating threads beside those still running.
set_option Elab.async false

variable {s t : State} {i : Instr}

/-! ## The trap (R265, R266) -/

/-- The trap's diagnostic comes before its save, and the save does not look at it. -/
theorem State.saveRuntime_raise (s : State) (c : DiagCode) (x : Byte) :
    (s.raise c x).saveRuntime = s.saveRuntime.raise c x := by
  rw [State.saveRuntime_eq, State.saveRuntime_eq]
  rfl

theorem State.enterError_eq (s : State) :
    s.enterError = { s.saveRuntime with
      diagLog := s.diagLog ++ [⟨.config, BitVec.ofNat 8 s.busState.code⟩]
      power := false, dir := false, reg := s.reg.allOffline, busState := .error } := by
  have hsave := s.saveRuntime_raise .config (BitVec.ofNat 8 s.busState.code)
  rw [State.enterError, hsave]
  simp only [State.raise, State.saveRuntime_reg, State.saveRuntime_diagLog]

/-- The trap does not look at BUSY. -/
theorem State.enterError_withBusy (s : State) (b : Bool) :
    State.enterError { s with busy := b } = { s.enterError with busy := b } := by
  rw [State.enterError_eq, State.enterError_eq, State.saveRuntime_withBusy]

theorem guardedCommand_code (h : guardedCommand i = true) : ∃ op, i.code = some op := by
  cases i with
  | powerOn | powerOff | heartbeatPoll | setRGB r g b | setBrightness v => exact ⟨_, rfl⟩
  | _ => cases h

/-- The five commands run under `ConfigGuard`. -/
theorem commandBody_guarded (hi : guardedCommand i = true) (s : State) :
    ∃ body, commandBody i s = s.guarded body := by
  cases i with
  | powerOn => exact ⟨_, (rfl : powerOnBody s = s.guarded _)⟩
  | powerOff => exact ⟨_, (rfl : powerOffBody s = s.guarded _)⟩
  | heartbeatPoll => exact ⟨_, (rfl : heartbeatPollBody s = s.guarded _)⟩
  | setRGB r g b => exact ⟨_, (rfl : setRGBBody r g b s = s.guarded _)⟩
  | setBrightness v => exact ⟨_, (rfl : setBrightnessBody v s = s.guarded _)⟩
  | _ => cases hi

/-- With `cfg_ok` = 0 they all do the same, whatever their operands (R265). -/
theorem exec_unconfigured (hi : guardedCommand i = true) (hfree : s.busy = false)
    (hcfg : s.cfgOk = false) :
    exec i s = .next ((if s.busState = .error then s else s.enterError).ended .configError) := by
  obtain ⟨op, hop⟩ := guardedCommand_code hi
  obtain ⟨body, hbody⟩ := commandBody_guarded hi { s with busy := true }
  have htrap := guarded_bad (s := { s with busy := true }) hcfg body
  rw [exec_accepted hop hfree, hbody, htrap, State.enterError_withBusy]
  split <;> rfl

/-- Settles O49: the guard by whether the bus is in Error already, and the trap by its registers. -/
theorem configErrorTrap : Obligations.ConfigErrorTrap := by
  unfold Obligations.ConfigErrorTrap
  intro i s hi hfree hcfg
  rw [exec_unconfigured hi hfree hcfg]
  refine ⟨fun herr => by rw [if_pos herr], fun herr => ?_⟩
  rw [if_neg herr]
  refine ⟨_, rfl, ?state, ?slots⟩
  case state => rw [State.ended_reg, State.enterError_reg, State.enterError_eq]
  case slots =>
    intro a
    rw [State.ended_reg, State.enterError_reg]
    exact s.reg.slot_allOffline a

/-! ## In Error the scheduler rests (R40, R267) -/

theorem Proc.runsIn_error_iff (p : Proc) : p.runsIn .error = true ↔ p = .idle := by
  cases p <;> decide

/-- Every line and every delay belongs to a procedure. -/
theorem Seq.proc_eq_idle_iff (q : Seq) : q.proc = .idle ↔ q = .idle := by
  cases q with
  | idle => decide
  | delaying d => cases d <;> simp [Seq.proc]
  | line l a ph => cases l <;> simp [Seq.proc, Line.proc]

/-- SEQ is in a procedure that runs in the present bus state. -/
theorem State.seq_runs (h : s.Inv) : s.seq.proc.runsIn s.busState = true := by
  cases hq : s.seq with
  | idle =>
    obtain ⟨-, -, -, -, hruns⟩ := (State.inv_idle_iff hq).mp h
    exact hruns
  | delaying d => exact ((State.inv_delaying_iff hq).mp h).runs
  | line l a ph => exact ((State.inv_line_iff hq).mp h).runs

theorem State.seq_idle_of_error (h : s.Inv) (herr : s.busState = .error) : s.seq = .idle := by
  have hruns := State.seq_runs h
  rw [herr] at hruns
  exact (Seq.proc_eq_idle_iff _).mp ((Proc.runsIn_error_iff _).mp hruns)

/-- Error leaves neither rail nor DIR up. -/
theorem State.outputs_off_of_error (h : s.Inv) (herr : s.busState = .error) :
    s.power = false ∧ s.dir = false := by
  obtain ⟨-, -, hdir, hrail, -⟩ := (State.inv_idle_iff (State.seq_idle_of_error h herr)).mp h
  exact ⟨by simpa [State.RailFollowsBus, State.on, herr] using hrail, hdir⟩

/-! ## A clock with the scheduler at rest -/

theorem State.receiveByte_busState (s : State) (rx : Option Byte) :
    (s.receiveByte rx).1.busState = s.busState := by
  unfold State.receiveByte
  split
  · split <;> rfl
  · rfl

theorem State.receiveByte_txLog (s : State) (rx : Option Byte) :
    (s.receiveByte rx).1.txLog = s.txLog := by
  unfold State.receiveByte
  split
  · split <;> rfl
  · rfl

theorem State.dropStale_busState (s : State) (e : Option Frame) :
    (s.dropStale e).busState = s.busState := by
  cases e <;> rfl

theorem State.dropStale_txLog (s : State) (e : Option Frame) :
    (s.dropStale e).txLog = s.txLog := by
  cases e <;> rfl

/-- With SEQ at Idle a clock is its received byte and then command acceptance (R271). -/
theorem step_idle (hrst : s.nextClock.1.rst = false) (hq : s.seq = .idle) :
    ∃ u : State, u.busState = s.busState ∧ u.txLog = s.txLog ∧
      step s = acceptStep s.nextClock.1.cmd u := by
  have hseq := (receiveByte_seq_busy (s.sample s.nextClock.1 s.nextClock.2) s.nextClock.1.rx).1
  have hbus := State.receiveByte_busState (s.sample s.nextClock.1 s.nextClock.2) s.nextClock.1.rx
  have htx := State.receiveByte_txLog (s.sample s.nextClock.1 s.nextClock.2) s.nextClock.1.rx
  cases hrx : (s.sample s.nextClock.1 s.nextClock.2).receiveByte s.nextClock.1.rx with
  | mk u e =>
    rw [hrx] at hseq hbus htx
    have hidle : (u.dropStale e).seq = .idle := (u.dropStale_seq e).trans (hseq.trans hq)
    refine ⟨u.dropStale e, (u.dropStale_busState e).trans hbus, (u.dropStale_txLog e).trans htx, ?_⟩
    rw [step_elsewhere hrst (by simp [hq]) hrx, State.advance_idle hidle]

/-! ## Command acceptance sends nothing (R201, R220) -/

theorem guarded_txLog {body : State → State} (h : (body s).txLog = s.txLog) :
    (s.guarded body).txLog = s.txLog := by
  cases hcfg : s.cfgOk with
  | true => rw [guarded_ok hcfg, h]
  | false =>
    rw [guarded_bad hcfg, State.finish_txLog]
    split
    · rfl
    · exact s.enterError_txLog

theorem powerOnBody_txLog (s : State) : (powerOnBody s).txLog = s.txLog := by
  refine guarded_txLog ?_
  split
  · rfl
  · split <;> rfl

theorem powerOffBody_txLog (s : State) : (powerOffBody s).txLog = s.txLog := by
  refine guarded_txLog ?_
  split
  · rfl
  · exact s.saveRuntime_txLog

theorem heartbeatPollBody_txLog (s : State) : (heartbeatPollBody s).txLog = s.txLog := by
  refine guarded_txLog ?_
  split
  · exact State.heartbeatFrom_txLog _ 0
  · rfl

theorem setRGBBody_txLog (r g b : Byte) (s : State) : (setRGBBody r g b s).txLog = s.txLog := by
  refine guarded_txLog ?_
  split
  · rfl
  · dsimp only
    split <;> rfl

theorem setBrightnessBody_txLog (v : Byte) (s : State) :
    (setBrightnessBody v s).txLog = s.txLog := by
  refine guarded_txLog ?_
  split
  · rfl
  · dsimp only
    split
    · exact State.brightnessFrom_txLog _ 0
    · rfl

theorem setWarnAtBody_txLog (v : Word32) (s : State) : (setWarnAtBody v s).txLog = s.txLog := by
  unfold setWarnAtBody
  split <;> rfl

theorem setAutoShutoffBody_txLog (v : Word32) (s : State) :
    (setAutoShutoffBody v s).txLog = s.txLog := by
  unfold setAutoShutoffBody
  split <;> rfl

theorem loadSettingsBody_txLog (bytes : List Byte) (s : State) :
    (loadSettingsBody bytes s).txLog = s.txLog := by
  unfold loadSettingsBody
  split <;> rfl

/-- A command puts its first request in TXBUF; the scheduler sends it in a later clock. -/
theorem commandBody_txLog (i : Instr) (s : State) : (commandBody i s).txLog = s.txLog := by
  cases i with
  | powerOn => exact powerOnBody_txLog s
  | powerOff => exact powerOffBody_txLog s
  | heartbeatPoll => exact heartbeatPollBody_txLog s
  | setRGB r g b => exact setRGBBody_txLog r g b s
  | setBrightness v => exact setBrightnessBody_txLog v s
  | saveRuntime => exact s.saveRuntime_txLog
  | setWarnAt v => exact setWarnAtBody_txLog v s
  | setAutoShutoff v => exact setAutoShutoffBody_txLog v s
  | loadSettings bytes => exact loadSettingsBody_txLog bytes s
  | _ => rfl

theorem acceptStep_txLog {cmd : Option Cmd} (h : acceptStep cmd s = .next t) :
    t.txLog = s.txLog := by
  rcases acceptStep_cases cmd s with ⟨-, heq⟩ | ⟨c, r, -, -, -, heq⟩ | ⟨c, i, -, hfree, hd, heq⟩
  · cases heq.symm.trans h
    rfl
  · cases heq.symm.trans h
    rfl
  · obtain ⟨op, hop⟩ := decodeCmd_code hd
    cases (heq.trans (exec_accepted hop hfree)).symm.trans h
    exact commandBody_txLog i { s with busy := true }

/-! ## Error is left only by reset (R267) -/

/-- No command moves the bus out of Error. -/
theorem CommandMoves.stays_in_error (h : CommandMoves s t) (herr : s.busState = .error) :
    t.busState = .error := by
  rcases h with hsame | ⟨hoff, -, -⟩ | ⟨-, htrap, -⟩
  · exact hsame.trans herr
  · exact absurd (herr.symm.trans hoff) (by decide)
  · exact htrap

/-- Settles O59: in Error SEQ is at Idle, so a clock is command acceptance, which neither moves the bus out
of Error nor sends; the invariant of the next state gives the outputs. -/
theorem errorLeftOnlyByReset : Obligations.ErrorLeftOnlyByReset := by
  unfold Obligations.ErrorLeftOnlyByReset
  intro s t h herr hrst hstep
  obtain ⟨u, hbus, htx, heq⟩ := step_idle hrst (State.seq_idle_of_error h herr)
  have haccept : acceptStep s.nextClock.1.cmd u = .next t := heq.symm.trans hstep
  have hterr : t.busState = .error := (acceptStep_moves haccept).stays_in_error (hbus.trans herr)
  obtain ⟨hpower, hdir⟩ := State.outputs_off_of_error (stepKeepsInvariant s t h hstep) hterr
  exact ⟨hterr, hpower, hdir, (acceptStep_txLog haccept).trans htx⟩

end Sys2Proof.Machine

/-! SUPPORT. Proofs of the statements about reset (R290). A clock with `rst` = 1 and `State.reset` are both
a state whose registers were reset, so what reset leaves is said once, of `State.resetRegisters`. -/

namespace Sys2Proof.Machine

-- As in the proofs of the state's statements: no elaborating threads beside those still running.
set_option Elab.async false

/-! ## The invariant at reset -/

theorem State.stored_reset : State.reset.Stored where
  mem := Memory.wf_reset
  slot0 := by decide
  deframer := by decide
  legal := Settings.legal_defaults

/-- Settles O54: reset stores legal values and leaves SEQ at Idle, with BUSY and DIR at 0 and the rail off
on an Offline bus. -/
theorem invariantAtReset : Obligations.InvariantAtReset := by
  unfold Obligations.InvariantAtReset
  have hrail : State.reset.RailFollowsBus := by decide
  have hruns : Proc.idle.runsIn State.reset.busState = true := by decide
  exact (State.inv_idle_iff rfl).mpr ⟨State.stored_reset, rfl, rfl, hrail, hruns⟩

/-! ## What reset leaves (R290) -/

/-- `rst` overrides the received byte, the scheduler and command acceptance (R271). -/
theorem clock_rst {c : Clock} (hrst : c.rst = true) (s : State) :
    clock c s = .next s.resetRegisters := by
  rw [clock, if_pos hrst]

theorem step_rst {s : State} (hrst : s.nextClock.1.rst = true) :
    step s = .next (s.sample s.nextClock.1 s.nextClock.2).resetRegisters :=
  clock_rst hrst _

theorem State.reset_eq_resetRegisters : State.reset = State.reset.resetRegisters := rfl

/-- No register is kept from before the reset, so every slot is absent. -/
theorem State.slot_resetRegisters (s : State) (a : Addr) :
    s.resetRegisters.reg.slot a = Slot.absent := by
  simp [State.resetRegisters, State.reset, Registry.slot, Vector.get_eq_getElem]

/-- The transmitter is offered no byte with SEQ at Idle (R50, R202). -/
theorem State.txOut_idle {s : State} (h : s.seq = .idle) : s.txOut = none := by
  simp [State.txOut, h]

/-- No poll is due with the bus not On, whatever NOW is (R232). -/
theorem State.hbDue_offline {s : State} (h : s.busState = .offline) : s.hbDue = false := by
  rw [← Bool.not_eq_true, State.hbDue_iff, h]
  simp

/-- Settles O55: a clock with `rst` = 1 resets the registers of the sampled state, and `State.reset` is its
own reset; the registers are read off, the slots and the outputs follow from them. -/
theorem resetLeavesR290 : Obligations.ResetLeavesR290 := by
  unfold Obligations.ResetLeavesR290
  intro s hrst
  refine ⟨_, step_rst hrst, rfl, rfl, rfl, rfl, fun u hu => ?_⟩
  obtain ⟨w, rfl⟩ : ∃ w : State, u = w.resetRegisters := by
    rcases List.mem_pair.mp hu with hstep | hreset
    · exact ⟨_, hstep⟩
    · exact ⟨_, hreset.trans State.reset_eq_resetRegisters⟩
  have hslots (a : Addr) : (w.resetRegisters.reg.slot a).present = false ∧
      (w.resetRegisters.reg.slot a).state = .offline ∧
      (w.resetRegisters.reg.slot a).ser1V = false ∧ (w.resetRegisters.reg.slot a).ser2V = false ∧
      (w.resetRegisters.reg.slot a).warmT0V = false := by
    rw [w.slot_resetRegisters a]
    exact ⟨rfl, rfl, rfl, rfl, rfl⟩
  exact ⟨rfl, rfl, rfl, rfl, hslots, rfl, rfl, rfl, rfl, rfl, rfl, rfl, rfl, rfl, rfl,
    State.txOut_idle rfl, State.hbDue_offline rfl⟩

end Sys2Proof.Machine
